-- ==== Sys2Proof/Word.lean ====
section
/-! DEFINITION. The words of the TQ832 that the manual treats as bits: bytes, two-byte fields, ticks,
sensor IDs, masks. Quantities that the manual computes with as integers (pressures, temperatures,
loads, counts) are `Nat` or `Int` instead (R2). -/

namespace Sys2Proof

/-- One byte on a receiver line, on a port or in the store. -/
abbrev Byte := BitVec 8

/-- A two-byte field: an error count (R15), the table revision (R145), a CRC-16 (R158). -/
abbrev Word16 := BitVec 16

/-- A value of the 24-bit tick counter; differences are modulo 2^24 (R1). -/
abbrev Tick := BitVec 24

/-- The 32-bit identity a sensor sends in each telegram. -/
abbrev SensorId := BitVec 32

/-- A set of receiver lines, bit n naming RLn (R181). -/
abbrev LineMask := BitVec 4

/-- A set of frame indices, bit n naming frame index n (R184). -/
abbrev FrameSet := BitVec 4

/-- A set of axles of one section, bit n naming its n-th axle (R181). -/
abbrev AxleMask := BitVec 4

/-- A set of condition kinds, bit n naming the kind of mask bit n (R112, R181). -/
abbrev KindMask := BitVec 10

/-- The 29-bit identifier of a CAN frame (R165). -/
abbrev FrameIdent := BitVec 29

end Sys2Proof
end

