-- ==== Sys2Proof/Config.lean ====
section
/-! DEFINITION. The fixed sizes, limits and durations of the TQ832, each with the rule that gives it.
The manual leaves no result value open, so there is no free value here. -/

namespace Sys2Proof.Config

/-- Capacity of the Merge Buffer (R17). -/
def mergeCapacity : Nat := 12
/-- Largest copy count an entry records (R19). -/
def copyCountMax : Nat := 16
/-- Capacity of the Foreign Sensor List (R44). -/
def foreignCapacity : Nat := 8
/-- Entries a leak history holds at most (R69). -/
def leakHistoryMax : Nat := 4
/-- Capacity of the Profile Stack (R98). -/
def stackCapacity : Nat := 3
/-- Capacity of a transmit queue (R172). -/
def queueCapacity : Nat := 16

/-- Ticks after which the span from a kept tick saturates, 2^23 − 1 (R1). -/
def spanMax : Nat := 8388607
/-- A delivery with the last sample's sequence is stale below this span (R41). -/
def staleTicks : Nat := 300
/-- The WAITING deadline lies this many ticks ahead (R84). -/
def waitingTicks : Nat := 6000
/-- The step deadline of a teach head lies this many ticks ahead (R134). -/
def teachStepTicks : Nat := 1200
/-- A leak history whose newest entry is older than this starts afresh (R69). -/
def leakGapTicks : Nat := 6000
/-- A leak rate is formed over at least this span (R70). -/
def leakMinTicks : Nat := 200

/-- Bytes of a line frame after LEN (R5 to R7). -/
def bodyBytes : Nat := 12
/-- The SYNC byte (R5). -/
def syncByte : Byte := 0x7E
/-- The only LEN accepted (R6). -/
def lenByte : Byte := 0x0C
/-- The marker of a complete store section (R158). -/
def markerByte : Byte := 0xA5
/-- The target of frames for all nodes (R165). -/
def allNodes : Byte := 0xFF

/-- The rise of the transmit error count at a failed attempt (R177). -/
def errorRise : Nat := 8
/-- Above this transmit error count the port enters BUS-OFF (R177). -/
def errorMax : Nat := 255

/-- Ticks in the TRL debounce of 2 s (R48). -/
def trlDebounceTicks : Nat := 20
/-- Ticks in the BODY debounce of 500 ms (R105). -/
def bodyDebounceTicks : Nat := 5
/-- Ticks in the idle timer's 30 s (R147). -/
def idleTicks : Nat := 300
/-- Ticks in the one second of BUS-OFF (R177). -/
def busOffTicks : Nat := 10
/-- A merge window (60 ms, R24) and a line gap (5 ms, R8) run out by the next tick. -/
def shortTimerTicks : Nat := 1

end Sys2Proof.Config
end

