-- ==== Sys2Proof/Syntax.lean ====
section
/-! DEFINITION. The commands of the TQ832: one constructor of `Instr` for each row of
spec/opcode_table.json, with the operands its rule gives it. -/

namespace Sys2Proof

/-- The two CAN ports (chapter 11). -/
inductive Port where
  /-- port A, to the vehicle bus -/
  | a
  /-- port B, to the trailer bus -/
  | b
deriving DecidableEq, Repr

/-- The port that is not this one. -/
def Port.other : Port → Port
  | .a => .b
  | .b => .a

/-- What kind of CAN frame a port sees (R165, R166). -/
inductive FrameForm where
  /-- a data frame with a 29-bit identifier, the only form a port takes -/
  | data29
  /-- a frame with an 11-bit identifier: ignored (R165) -/
  | data11
  /-- a remote frame: ignored (R165) -/
  | remote
  /-- a frame received with a detected error: passed over (R166) -/
  | damaged
deriving DecidableEq, Repr

/-- A received request frame: all of it but its code, which the command names. -/
structure Request where
  /-- the port whose bus carries the frame -/
  port : Port
  form : FrameForm
  /-- not looked at (R166) -/
  priority : BitVec 3
  /-- identifier bits 25–24; REQUEST is 0 (R165) -/
  cls : BitVec 2
  /-- the address the frame is meant for; FFh for all nodes -/
  target : Byte
  /-- the address of the node that sent the frame -/
  sender : Byte
  /-- data length code, 9 to 15 counted as 8 (R166) -/
  dlc : BitVec 4
  /-- the data bytes; those beyond the data length count as not sent -/
  data : Vector Byte 8
deriving DecidableEq, Repr

/-- How far the section write in progress had come when a device reset cut it short (R164). -/
inductive SaveCut where
  /-- not yet begun: the sections before it are verified, and its erase has not started -/
  | notReached
  /-- being erased, or written with the marker not yet A5h -/
  | unmarked
  /-- marker written, verify not complete; whether the write was good -/
  | marked (good : Bool)
deriving DecidableEq, Repr

/-- What the read-backs of one section save show (R162). -/
inductive SaveResult where
  /-- the first verify passes -/
  | passedFirst
  /-- the first verify fails and the rewrite's passes -/
  | passedSecond
  /-- both verifies fail -/
  | failedTwice
deriving DecidableEq, Repr

/-- How a transmission attempt ends (R172). -/
inductive AttemptResult where
  | success
  | lostArbitration
  | failure
deriving DecidableEq, Repr

/-- One run of a receiver line's gap timer: from the byte that starts it to the next byte, the end of the frame or
its expiry (R8). The `number`-th start of that line's timer begins it (log 33). -/
structure GapRun where
  line : Fin 4
  number : Nat
deriving DecidableEq, Repr

/-- The commands: one constructor per row of spec/opcode_table.json. -/
inductive Instr where
  /-- power-on or NRST low (R160): the strap levels ADDR1, ADDR0 as read (R165), and how far an
  interrupted section write had come (R164; of no effect where no save was in progress) -/
  | deviceReset (straps : BitVec 2) (cut : SaveCut)
  /-- the third section has been judged (R160, R161) -/
  | endOfStarting
  /-- a character on RL`line` with its stop-bit level and value (R3) -/
  | receivedByte (line : Fin 4) (stopHigh : Bool) (value : Byte)
  /-- more than 5 ms without a byte since this run of a line's gap timer began (R8) -/
  | gapExpiry (run : GapRun)
  /-- the 60 ms window of the entry with this key has run out (R25) -/
  | windowExpiry (id : SensorId) (seq : BitVec 4)
  /-- the tick counter has taken the value of position `p`'s deadline (R85) -/
  | deadlineExpiry (p : Fin 32)
  /-- the tick counter has taken the value of the teach step deadline (R134) -/
  | stepDeadlineExpiry
  /-- the TRL input takes this level (R48) -/
  | trlChange (high : Bool)
  /-- TRL has held the differing level for 2 s (R48) -/
  | trlDebounceExpiry
  /-- the BODY input takes this level (R105) -/
  | bodyChange (high : Bool)
  /-- BODY has held the differing level for 500 ms (R105) -/
  | bodyDebounceExpiry
  /-- width or period ticks have passed since the flash phase start (R127) -/
  | flashPhase
  /-- the port's period timer expires (R175) -/
  | cyclicReport (port : Port)
  /-- the port's arbiter makes an offer (R172) -/
  | frameOffer (port : Port)
  /-- the port's transmission attempt ends (R172) -/
  | attemptEnd (port : Port) (result : AttemptResult)
  /-- one second has passed since the port entered BUS-OFF (R177) -/
  | busOffReturn (port : Port)
  /-- the grant's idle timer has run for 30 s (R147) -/
  | idleExpiry
  /-- the section being saved has been dealt with (R162) -/
  | sectionSave (result : SaveResult)
  | readPosition (r : Request)
  | readAxle (r : Request)
  | readProfile (r : Request)
  | readSettings (r : Request)
  | readForeign (r : Request)
  | readLineStatus (r : Request)
  | readStack (r : Request)
  | readStatus (r : Request)
  | ack (r : Request)
  | hold (r : Request)
  | unhold (r : Request)
  | push (r : Request)
  | pop (r : Request)
  | grantRequest (r : Request)
  | grantRelease (r : Request)
  | writePosition (r : Request)
  | writeAxle (r : Request)
  | writeProfile (r : Request)
  | writeSettings (r : Request)
  | clearSection (r : Request)
  | lockTruck (r : Request)
  | teachStart (r : Request)
  | teachAppend (r : Request)
  | teachAbort (r : Request)
  | vehicleState (r : Request)
  /-- a request whose code names no request of the part (R166) -/
  | unknownRequest (code : Byte) (r : Request)
  /-- 8,388,607 ticks have passed since a kept tick (R1) -/
  | keptTickSaturation
deriving DecidableEq, Repr

end Sys2Proof
end

