-- ==== Sys2Proof/Decode.lean ====
section
/-! DEFINITION. How a frame on a bus is read into the command it stands for, by its 29-bit identifier, and
the commands that a word spells: none, since no row of spec/opcode_table.json gives bits. -/

namespace Sys2Proof

/-- A CAN frame as a port sees it on its bus. -/
structure BusFrame where
  port : Port
  form : FrameForm
  /-- the 29-bit identifier (R165, R180) -/
  ident : FrameIdent
  dlc : BitVec 4
  data : Vector Byte 8
deriving DecidableEq, Repr

/-- The code field of an identifier, bits 23–16 (R180). -/
def identCode (i : FrameIdent) : Byte := i.extractLsb' 16 8

/-- The frame with its identifier read into the other four fields: bits 28–26 priority, 25–24 class, 15–8
target, 7–0 sender (R165, R180). -/
def BusFrame.request (f : BusFrame) : Request :=
  { port := f.port
    form := f.form
    priority := f.ident.extractLsb' 26 3
    cls := f.ident.extractLsb' 24 2
    target := f.ident.extractLsb' 8 8
    sender := f.ident.extractLsb' 0 8
    dlc := f.dlc
    data := f.data }

/-- The request that a code names (R180). -/
def commandOfCode (code : Byte) (r : Request) : Instr :=
  match code.toNat with
  | 0x01 => .readPosition r
  | 0x02 => .readAxle r
  | 0x03 => .readProfile r
  | 0x04 => .readSettings r
  | 0x05 => .readForeign r
  | 0x06 => .readLineStatus r
  | 0x07 => .readStack r
  | 0x08 => .readStatus r
  | 0x10 => .ack r
  | 0x11 => .hold r
  | 0x12 => .unhold r
  | 0x13 => .push r
  | 0x14 => .pop r
  | 0x20 => .grantRequest r
  | 0x21 => .grantRelease r
  | 0x30 => .writePosition r
  | 0x31 => .writeAxle r
  | 0x32 => .writeProfile r
  | 0x33 => .writeSettings r
  | 0x34 => .clearSection r
  | 0x35 => .lockTruck r
  | 0x40 => .teachStart r
  | 0x41 => .teachAppend r
  | 0x42 => .teachAbort r
  | 0x50 => .vehicleState r
  | _ => .unknownRequest code r

/-- The command that a frame on a bus stands for: the request its code names. Whether the port takes the
frame is the command's own matter (R166). -/
def BusFrame.command (f : BusFrame) : Instr := commandOfCode (identCode f.ident) f.request

/-- The command that a word of `nbits` bits spells by the table's bits: none, for every word. -/
def decodeTableWord (_nbits _w : Nat) : Option Instr := none

end Sys2Proof
end

