-- ==== Sys2Proof/Machine/Types.lean ====
section
/-! DEFINITION. The data that the blocks of the TQ832 hold, under the manual's own names. -/

namespace Sys2Proof.Machine

/-- Axle numbers 0 to 7: 0–3 truck section, 4–7 trailer section (R31). -/
abbrev AxleNo := Fin 8
/-- Position numbers p = 4 × axle + slot, 0 to 31 (R32). -/
abbrev Pos := Fin 32
/-- Slot numbers: 0 LO, 1 LI, 2 RI, 3 RO. -/
abbrev Slot := Fin 4
/-- Profile indices 0 to 5 (R94). -/
abbrev ProfileNo := Fin 6

/-- One value for each of the two ports. -/
structure PerPort (α : Type) where
  a : α
  b : α
deriving DecidableEq, Repr

/-- The value of one port. -/
def PerPort.get {α : Type} (x : PerPort α) : Port → α
  | .a => x.a
  | .b => x.b

/-- The pair with one port's value replaced. -/
def PerPort.set {α : Type} (x : PerPort α) (p : Port) (v : α) : PerPort α :=
  match p with
  | .a => { x with a := v }
  | .b => { x with b := v }

/-- The same value for both ports. -/
def PerPort.both {α : Type} (v : α) : PerPort α := { a := v, b := v }

/-- The three sections of the store (R158). -/
inductive SectionName where
  | t
  | l
  | p
deriving DecidableEq, Repr

/-- One value for each of the three store sections. -/
structure PerSection (α : Type) where
  t : α
  l : α
  p : α
deriving DecidableEq, Repr

/-- The value of one section. -/
def PerSection.get {α : Type} (x : PerSection α) : SectionName → α
  | .t => x.t
  | .l => x.l
  | .p => x.p

/-- The triple with one section's value replaced. -/
def PerSection.set {α : Type} (x : PerSection α) (n : SectionName) (v : α) : PerSection α :=
  match n with
  | .t => { x with t := v }
  | .l => { x with l := v }
  | .p => { x with p := v }

/-- The same value for all three sections. -/
def PerSection.all {α : Type} (v : α) : PerSection α := { t := v, l := v, p := v }

/-- Whether the part is loading its store or at work (R160). -/
inductive Phase where
  | starting
  | running
deriving DecidableEq, Repr

/-! ### Receiver lines and merging (chapters 1 and 2) -/

/-- Where a line stands in a frame (section 1.1). -/
inductive Assembly where
  | hunt
  | length
  | body
deriving DecidableEq, Repr

/-- One receiver line (section 1.1). -/
structure Line where
  assembly : Assembly
  /-- the bytes received after LEN, in arrival order -/
  store : List Byte
  /-- the tick of the last byte while the gap timer runs; `none` when it is stopped -/
  gapTimer : Option Tick
  /-- how often the gap timer has been started: the number of its present or last run (log 33) -/
  gapRuns : Nat
  framing : Word16
  check : Word16
  crc : Word16
  ident : Word16
deriving DecidableEq, Repr

/-- Why the sensor transmitted (section 1.6). -/
inductive TeleKind where
  | periodic
  | alert
  | trigger
deriving DecidableEq, Repr

/-- What a sensor repeats unchanged in every frame of a burst: kind and payload (section 2.1). -/
structure Content where
  kind : TeleKind
  motion : Bool
  batteryLow : Bool
  sensorFault : Bool
  /-- absolute kPa; `none` when invalid -/
  pressure : Option Nat
  /-- °C; `none` when invalid -/
  temperature : Option Int
deriving DecidableEq, Repr

/-- One valid telegram as received on one line (R13). -/
structure Copy where
  id : SensorId
  seq : BitVec 4
  frameIndex : BitVec 2
  content : Content
  rssi : Byte
  line : Fin 4
deriving DecidableEq, Repr

/-- How a transmission was heard (R17, R19, R20, R21). -/
structure Heard where
  bestRssi : Byte
  bestLine : Fin 4
  lineMask : LineMask
  frameSet : FrameSet
  copyCount : Nat
  conflict : Bool
deriving DecidableEq, Repr

/-- An entry of the Merge Buffer (R17). Its window timer runs as long as it is in the buffer (R24). -/
structure MergeEntry where
  id : SensorId
  seq : BitVec 4
  content : Content
  heard : Heard
  openingTick : Tick
deriving DecidableEq, Repr

/-- The record handed to the wheel table when an entry closes (R26). -/
structure Delivery where
  id : SensorId
  seq : BitVec 4
  content : Content
  heard : Heard
  tick : Tick
deriving DecidableEq, Repr

/-! ### The wheel table (chapter 3) -/

/-- A tick that is kept and later measured a span from; once saturated it stays so (R1). -/
structure KeptTick where
  tick : Tick
  saturated : Bool
deriving DecidableEq, Repr

/-- Which slots of an axle exist (R31). -/
inductive AxleKind where
  | absent
  | single
  | twin
deriving DecidableEq, Repr

/-- An axle record (R31). -/
structure Axle where
  kind : AxleKind
  /-- unladen target Tu, kPa -/
  unladen : Nat
  /-- laden target Tl, kPa -/
  laden : Nat
deriving DecidableEq, Repr

/-- The six states of a position (R34). -/
inductive PosState where
  | unassigned
  | waiting
  | active
  | missing
  | held
  | detached
deriving DecidableEq, Repr

/-- The ten condition kinds, in mask bit order (R112). -/
inductive Kind where
  | underW
  | underC
  | overW
  | leak
  | tempW
  | tempC
  | imbalance
  | missing
  | sensorFault
  | batteryLow
deriving DecidableEq, Repr

/-- A position's last sample (R33, R42). -/
structure Sample where
  content : Content
  seq : BitVec 4
  heard : Heard
  tick : KeptTick
deriving DecidableEq, Repr

/-- One entry of a leak history (R69). -/
structure LeakEntry where
  pc : Nat
  tick : KeptTick
deriving DecidableEq, Repr

/-- A port's capture record for a position (R119). -/
structure Capture where
  kind : Kind
  tick : Tick
  pc : Option Nat
  temperature : Option Int
deriving DecidableEq, Repr

/-- The record of one position (R33). -/
structure Position where
  sensor : Option SensorId
  state : PosState
  beforeHold : Option PosState
  sample : Option Sample
  lastTemp : Option Int
  pc : Option Nat
  leakHistory : List LeakEntry
  leakRate : Option Nat
  intervalMoving : Option Nat
  intervalStationary : Option Nat
  deadline : Option Tick
  remaining : Option Nat
  live : KindMask
  latched : PerPort KindMask
  capture : PerPort (Option Capture)
deriving DecidableEq, Repr

/-- An entry of the Foreign Sensor List (R44). -/
structure ForeignEntry where
  id : SensorId
  hits : Nat
  rssi : Byte
  lineMask : LineMask
  tick : KeptTick
  motionSeen : Bool
deriving DecidableEq, Repr

/-! ### Context, profiles, settings, warning line (chapters 4, 6, 7) -/

/-- The vehicle context record (R58). -/
structure Context where
  /-- percent of full load -/
  load : Nat
  truckLifted : AxleMask
  trailerLifted : AxleMask
  /-- absolute kPa -/
  ambient : Nat
deriving DecidableEq, Repr

/-- A profile record (R93). -/
structure Profile where
  enable : KindMask
  uw : Nat
  uc : Nat
  ow : Nat
  hyst : Nat
  tw : Int
  tc : Int
  th : Nat
  ib : Nat
  lk : Nat
deriving DecidableEq, Repr

/-- Who placed a stack entry (R98): RESET, PORT-A or PORT-B, BODY. -/
inductive Origin where
  | reset
  | port (p : Port)
  | body
deriving DecidableEq, Repr

/-- An entry of the Profile Stack (R98). -/
structure StackEntry where
  index : ProfileNo
  origin : Origin
deriving DecidableEq, Repr

/-- The debounced state of the tipping body (R105). -/
inductive BodyState where
  | lowered
  | raised
deriving DecidableEq, Repr

/-- Whose latched sets the lamp counts (R126). -/
inductive LampPorts where
  | noPort
  | onlyA
  | onlyB
  | both
deriving DecidableEq, Repr

/-- The two visiting orders of an axle's slots (R55). -/
inductive VisitOrder where
  | linear
  | twin
deriving DecidableEq, Repr

/-- The settings of section P other than the profiles and the revision (R158). -/
structure Settings where
  /-- reference temperature, °C (R63) -/
  tref : Int
  /-- tipping profile, `none` for NONE (R108) -/
  tipping : Option ProfileNo
  lampPorts : LampPorts
  flashPeriod : Nat
  flashWidth : Nat
  reportPeriod : PerPort Nat
  order : PerPort VisitOrder
  loadSource : Port
  truckSource : Port
  trailerSource : Port
deriving DecidableEq, Repr

/-- The WARN level (R125). -/
inductive WarnLevel where
  | off
  | steady
  | flash
deriving DecidableEq, Repr

/-- The Warning Line Driver: level, flash phase start, and the WARN output (R125, R127). -/
structure Warn where
  level : WarnLevel
  phaseStart : Tick
  high : Bool
deriving DecidableEq, Repr

/-! ### Teach session, grant, store, ports (chapters 8 to 11) -/

/-- The teach session record (R129). -/
structure TeachSession where
  owner : Port
  /-- head first -/
  queue : List Pos
  taught : List Pos
  stepDeadline : Tick
  count : Nat
deriving DecidableEq, Repr

/-- The grant states (R145). -/
inductive GrantState where
  | free
  | held (p : Port)
  | saving
deriving DecidableEq, Repr

/-- The state of the Edit Grant Controller (R145). -/
structure Grant where
  state : GrantState
  /-- oldest request first -/
  waiting : List Port
  /-- the tick at which the running idle timer was last set; `none` when it is stopped -/
  idleTimer : Option Tick
  marks : PerSection Bool
  truckLock : Bool
  revision : Word16
  /-- the sections handed to the Settings Store and not yet dealt with, the first being written (R151) -/
  toSave : List SectionName
deriving DecidableEq, Repr

/-- One section of the store: its image, the CRC-16 and the marker byte (R158). -/
structure StoreSection where
  image : List Byte
  crc : Word16
  marker : Byte
deriving DecidableEq, Repr

/-- The two flags of a section (R163). -/
structure SectionFlags where
  defaulted : Bool
  writeFailed : Bool
deriving DecidableEq, Repr

/-- A frame in a transmit queue; `sending` marks the one in transmission (R172). -/
structure TxFrame where
  ident : FrameIdent
  data : List Byte
  sending : Bool
deriving DecidableEq, Repr

/-- The state of a port (R177); BUS-OFF keeps the tick it was entered in. -/
inductive PortMode where
  | active
  | busOff (since : Tick)
deriving DecidableEq, Repr

/-- The state of a port controller (chapter 11). -/
structure PortCtl where
  mode : PortMode
  /-- oldest first -/
  queue : List TxFrame
  errors : Nat
  /-- the tick at which the running period timer next expires; `none` when it is stopped -/
  periodDue : Option Tick
  nextAxle : AxleNo
  overflow : Bool
deriving DecidableEq, Repr

end Sys2Proof.Machine
end

