-- ==== Sys2Proof/Machine/Factory.lean ====
section
/-! DEFINITION. The values that a device reset and a failed store section give: the factory defaults
of R94 and R158 and the reset values of each chapter. -/

namespace Sys2Proof.Machine

/-- A line after device reset (R4). -/
def Line.atReset : Line :=
  { assembly := .hunt, store := [], gapTimer := none, gapRuns := 0, framing := 0, check := 0, crc := 0, ident := 0 }

/-- The factory default of every axle (R31, R158). -/
def Axle.factory : Axle := { kind := .absent, unladen := 700, laden := 850 }

/-- An UNASSIGNED position: every field at its empty value (R33, R34). -/
def Position.empty : Position :=
  { sensor := none, state := .unassigned, beforeHold := none, sample := none, lastTemp := none,
    pc := none, leakHistory := [], leakRate := none, intervalMoving := none,
    intervalStationary := none, deadline := none, remaining := none, live := 0,
    latched := .both 0, capture := .both none }

/-- A profile record with every field at its default (R93). -/
def Profile.default : Profile :=
  { enable := 0x3FF, uw := 900, uc := 800, ow := 1150, hyst := 10, tw := 85, tc := 105, th := 5,
    ib := 70, lk := 15 }

/-- The tipping profile: LEAK (bit 3) and IMBALANCE (bit 6) not enabled, ow 1250 (R94). -/
def Profile.tipping : Profile := { Profile.default with enable := 0x3B7, ow := 1250 }

/-- The factory contents of the Profile Table (R94). -/
def factoryProfiles : Vector Profile 6 :=
  (Vector.replicate 6 Profile.default).set 1 Profile.tipping

/-- The factory defaults of the settings of section P (R158). -/
def Settings.factory : Settings :=
  { tref := 20, tipping := some 1, lampPorts := .onlyA, flashPeriod := 10, flashWidth := 5,
    reportPeriod := .both 10, order := .both .linear, loadSource := .a, truckSource := .a,
    trailerSource := .b }

/-- The vehicle context after device reset (R58). -/
def Context.atReset : Context := { load := 100, truckLifted := 0, trailerLifted := 0, ambient := 101 }

/-- The grant record after device reset (R145). -/
def Grant.atReset : Grant :=
  { state := .free, waiting := [], idleTimer := none, marks := .all false, truckLock := false,
    revision := 0, toSave := [] }

/-- A port controller after device reset (R172, R174, R175, R177); the next-axle number, which R175 gives from the
end of STARTING on, is 0 before it too (log 9). -/
def PortCtl.atReset : PortCtl :=
  { mode := .active, queue := [], errors := 0, periodDue := none, nextAxle := 0, overflow := false }

/-- The number of image bytes of a section, under the layout of Machine/Store.lean. -/
def imageSize : SectionName → Nat
  | .t => 100
  | .l => 100
  | .p => 104

/-- An erased section reads FFh in every byte (R159). -/
def erasedSection (n : SectionName) : StoreSection :=
  { image := List.replicate (imageSize n) 0xFF, crc := 0xFFFF, marker := 0xFF }

end Sys2Proof.Machine
end

