-- ==== Sys2Proof/Machine/State.lean ====
section
/-! DEFINITION. The whole state of the TQ832, the ways a step can stop, and the state after reset. -/

namespace Sys2Proof.Machine

/-- Faults: none. No rule of the spec ends the part's work; every error it knows is state (error
counts R15, refusal answers R167, overflow flags R174, BUS-OFF R177, store flags R163). -/
inductive Fault where
deriving DecidableEq, Repr

/-- Reasons why a term has no meaning. -/
inductive Refusal where
  /-- Raised by an arm of `exec` whose command has no meaning yet; safe. No arm raises it. -/
  | notModelled (mnemonic : String)
  /-- Raised by UNKNOWN_REQUEST with the code of a request the part knows: such a frame is that
  request's command and not this one, so the term is not well-formed; safe (log 14). -/
  | codeNamesARequest (code : Byte)
deriving DecidableEq, Repr

/-- The state of the part, block by block. -/
structure State where
  /-- the commands waiting, first in first out -/
  pending : List Instr
  phase : Phase
  /-- the tick counter (R1) -/
  tick : Tick
  /-- the strap levels ADDR1, ADDR0 as read when the device reset began (R165) -/
  straps : BitVec 2
  /-- the level of the TRL input -/
  trl : Bool
  /-- the level of the BODY input -/
  body : Bool
  /-- RL0 to RL3 (chapter 1) -/
  lines : Vector Line 4
  /-- the Merge Buffer, oldest first (R17) -/
  merge : List MergeEntry
  axles : Vector Axle 8
  positions : Vector Position 32
  /-- the Foreign Sensor List, most recently heard first (R44) -/
  foreign : List ForeignEntry
  trailerPresent : Bool
  /-- the tick at which the running TRL debounce timer started; `none` when it is stopped (R48) -/
  trlTimer : Option Tick
  context : Context
  profiles : Vector Profile 6
  /-- the Profile Stack, bottom to top (R98) -/
  stack : List StackEntry
  bodyState : BodyState
  /-- the tick at which the running BODY debounce timer started; `none` when it is stopped (R105) -/
  bodyTimer : Option Tick
  settings : Settings
  warn : Warn
  teach : Option TeachSession
  grant : Grant
  /-- the non-volatile sections (R158) -/
  store : PerSection StoreSection
  flags : PerSection SectionFlags
  ports : PerPort PortCtl
deriving DecidableEq, Repr

/-- The part right after a device reset, STARTING with everything volatile at its reset value (R160
and the reset table of each chapter). The store is taken as erased (log 6), the pins as low (log 8),
and what the load will bring stands at its factory default, the DEFAULTED flags clear (log 9). -/
def State.reset : State where
  pending := []
  phase := .starting
  tick := 0
  straps := 0
  trl := false
  body := false
  lines := Vector.replicate 4 Line.atReset
  merge := []
  axles := Vector.replicate 8 Axle.factory
  positions := Vector.replicate 32 Position.empty
  foreign := []
  trailerPresent := false
  trlTimer := none
  context := Context.atReset
  profiles := factoryProfiles
  stack := [{ index := 0, origin := .reset }]
  bodyState := .lowered
  bodyTimer := none
  settings := Settings.factory
  warn := { level := .off, phaseStart := 0, high := false }
  teach := none
  grant := Grant.atReset
  store := { t := erasedSection .t, l := erasedSection .l, p := erasedSection .p }
  flags := .all { defaulted := false, writeFailed := false }
  ports := .both PortCtl.atReset

end Sys2Proof.Machine
end

