-- ==== Sys2Proof/Machine/Flags.lean ====
section
/-! DEFINITION. Condition masks and severities: the flag arithmetic of chapter 7. -/

namespace Sys2Proof.Machine

/-- Severities, ordered INFO below WARNING below CRITICAL (R112). -/
inductive Severity where
  | noKind
  | info
  | warning
  | critical
deriving DecidableEq, Repr

/-- The mask bit of a kind (R112). -/
def Kind.bit : Kind → Nat
  | .underW => 0
  | .underC => 1
  | .overW => 2
  | .leak => 3
  | .tempW => 4
  | .tempC => 5
  | .imbalance => 6
  | .missing => 7
  | .sensorFault => 8
  | .batteryLow => 9

/-- The fixed severity of a kind (R112). -/
def Kind.severity : Kind → Severity
  | .underW => .warning
  | .underC => .critical
  | .overW => .warning
  | .leak => .critical
  | .tempW => .warning
  | .tempC => .critical
  | .imbalance => .warning
  | .missing => .warning
  | .sensorFault => .warning
  | .batteryLow => .info

/-- The ten kinds in mask bit order (R112). -/
def allKinds : List Kind :=
  [.underW, .underC, .overW, .leak, .tempW, .tempC, .imbalance, .missing, .sensorFault, .batteryLow]

/-- Whether a kind is in a mask. -/
def hasKind (m : KindMask) (k : Kind) : Bool := m.getLsbD k.bit

/-- The mask of one kind. -/
def kindMask (k : Kind) : KindMask := 1#10 <<< k.bit

/-- A mask with a kind added. -/
def addKind (m : KindMask) (k : Kind) : KindMask := m ||| kindMask k

/-- A mask with a kind removed. -/
def dropKind (m : KindMask) (k : Kind) : KindMask := m &&& ~~~ kindMask k

/-- The mask of the kinds that satisfy a test. -/
def maskOf (f : Kind → Bool) : KindMask :=
  allKinds.foldl (fun m k => if f k then addKind m k else m) 0

/-- The kinds that go from not live to live, in mask bit order (R115, R122). -/
def transitions (old new : KindMask) : List Kind :=
  allKinds.filter fun k => hasKind new k && !hasKind old k

/-- The highest severity among the kinds of a mask, NONE when it is empty (R112). -/
def highestSeverity (m : KindMask) : Severity :=
  if allKinds.any fun k => hasKind m k && k.severity == .critical then .critical
  else if allKinds.any fun k => hasKind m k && k.severity == .warning then .warning
  else if allKinds.any fun k => hasKind m k && k.severity == .info then .info
  else .noKind

/-- The WARN level that the counted kinds give (R125). -/
def levelOf (counted : KindMask) : WarnLevel :=
  match highestSeverity counted with
  | .critical => .flash
  | .warning => .steady
  | .info => .off
  | .noKind => .off

/-- The kinds that the lamp counts at one position: its live set and the latched sets of the ports
named in the lamp setting (R125, R126). -/
def countedAt (lamp : LampPorts) (x : Position) : KindMask :=
  match lamp with
  | .noPort => x.live
  | .onlyA => x.live ||| x.latched.a
  | .onlyB => x.live ||| x.latched.b
  | .both => x.live ||| x.latched.a ||| x.latched.b

end Sys2Proof.Machine
end

