-- ==== Sys2Proof/Machine/Codes.lean ====
section
/-! DEFINITION. The code values and the byte encodings of the ports (R180, R181). -/

namespace Sys2Proof.Machine

/-! ### Request, report and notice codes (R180) -/

def codeReadPosition : Byte := 0x01
def codeReadAxle : Byte := 0x02
def codeReadProfile : Byte := 0x03
def codeReadSettings : Byte := 0x04
def codeReadForeign : Byte := 0x05
def codeReadLineStatus : Byte := 0x06
def codeReadStack : Byte := 0x07
def codeReadStatus : Byte := 0x08
def codeAck : Byte := 0x10
def codeHold : Byte := 0x11
def codeUnhold : Byte := 0x12
def codePush : Byte := 0x13
def codePop : Byte := 0x14
def codeGrantRequest : Byte := 0x20
def codeGrantRelease : Byte := 0x21
def codeWritePosition : Byte := 0x30
def codeWriteAxle : Byte := 0x31
def codeWriteProfile : Byte := 0x32
def codeWriteSettings : Byte := 0x33
def codeClearSection : Byte := 0x34
def codeLockTruck : Byte := 0x35
def codeTeachStart : Byte := 0x40
def codeTeachAppend : Byte := 0x41
def codeTeachAbort : Byte := 0x42
def codePositionReport : Byte := 0x60
def codeAlarmEvent : Byte := 0x61
def codeStackChanged : Byte := 0x62
def codeTableRevision : Byte := 0x70
def codeGranted : Byte := 0x71
def codeGrantLost : Byte := 0x72
def codeTeachProgress : Byte := 0x73
def codeTeachRepeat : Byte := 0x74
def codeTeachLocked : Byte := 0x75
def codeTeachEnd : Byte := 0x76

/-! ### Identifier fields (R165) -/

def classAnswer : BitVec 2 := 1
def classReport : BitVec 2 := 2
def classNotice : BitVec 2 := 3

/-- The identifier formed from its five fields (R165, R180). -/
def frameIdent (priority : BitVec 3) (cls : BitVec 2) (code target sender : Byte) : FrameIdent :=
  priority ++ cls ++ code ++ target ++ sender

/-- The priority field of an identifier. -/
def identPriority (i : FrameIdent) : BitVec 3 := i.extractLsb' 26 3

/-! ### Enumerations (R180) -/

/-- The outcomes of a request. -/
inductive Reply where
  | done
  | clamped
  | queued
  | granted
  | noGrant
  | locked
  | invalid
  | busy
  | notHeld
  | notFound
  | notReady
deriving DecidableEq, Repr

def Reply.code : Reply → Byte
  | .done => 0x00
  | .clamped => 0x01
  | .queued => 0x02
  | .granted => 0x03
  | .noGrant => 0x80
  | .locked => 0x81
  | .invalid => 0x82
  | .busy => 0x83
  | .notHeld => 0x84
  | .notFound => 0x85
  | .notReady => 0x86

/-- The causes of an ALARM EVENT (R121). -/
inductive AlarmCause where
  | sample
  | reEvaluation
  | expiry
  | restore
deriving DecidableEq, Repr

def AlarmCause.code : AlarmCause → Nat
  | .sample => 0
  | .reEvaluation => 1
  | .expiry => 2
  | .restore => 3

/-- The causes of a STACK CHANGED report (R109). -/
inductive StackCause where
  | push
  | pop
  | bodyRaised
  | bodyLowered
deriving DecidableEq, Repr

def StackCause.code : StackCause → Nat
  | .push => 0
  | .pop => 1
  | .bodyRaised => 2
  | .bodyLowered => 3

/-- The outcomes of a teach session (R142). -/
inductive TeachOutcome where
  | complete
  | timeout
  | aborted
  | detached
deriving DecidableEq, Repr

def TeachOutcome.code : TeachOutcome → Byte
  | .complete => 0
  | .timeout => 1
  | .aborted => 2
  | .detached => 3

def PosState.code : PosState → Nat
  | .unassigned => 0
  | .waiting => 1
  | .active => 2
  | .missing => 3
  | .held => 4
  | .detached => 5

def Severity.code : Severity → Nat
  | .noKind => 0
  | .info => 1
  | .warning => 2
  | .critical => 3

def AxleKind.code : AxleKind → Nat
  | .absent => 0
  | .single => 1
  | .twin => 2

def AxleKind.ofCode : Nat → Option AxleKind
  | 0 => some .absent
  | 1 => some .single
  | 2 => some .twin
  | _ => none

def VisitOrder.code : VisitOrder → Nat
  | .linear => 0
  | .twin => 1

def VisitOrder.ofCode : Nat → Option VisitOrder
  | 0 => some .linear
  | 1 => some .twin
  | _ => none

def portCode : Port → Nat
  | .a => 0
  | .b => 1

def portOfCode : Nat → Option Port
  | 0 => some .a
  | 1 => some .b
  | _ => none

def LampPorts.code : LampPorts → Nat
  | .noPort => 0
  | .onlyA => 1
  | .onlyB => 2
  | .both => 3

def LampPorts.ofCode : Nat → Option LampPorts
  | 0 => some .noPort
  | 1 => some .onlyA
  | 2 => some .onlyB
  | 3 => some .both
  | _ => none

/-- The tipping-profile code: an index, or FFh for NONE. -/
def tippingCode : Option ProfileNo → Nat
  | some i => i.val
  | none => 0xFF

/-- A profile index named by a code from 0 to 5. -/
def profileOfCode (n : Nat) : Option ProfileNo := if h : n < 6 then some ⟨n, h⟩ else none

/-- The tipping profile named by a code; the outer `none` is a code that names nothing (R108). -/
def tippingOfCode (n : Nat) : Option (Option ProfileNo) :=
  if n = 0xFF then some none else (profileOfCode n).map some

def Origin.code : Origin → Nat
  | .reset => 0
  | .port .a => 1
  | .port .b => 2
  | .body => 3

def GrantState.code : GrantState → Byte
  | .free => 0
  | .held .a => 1
  | .held .b => 2
  | .saving => 3

def WarnLevel.code : WarnLevel → Byte
  | .off => 0
  | .steady => 1
  | .flash => 2

def TeleKind.code : TeleKind → Nat
  | .periodic => 0
  | .alert => 1
  | .trigger => 2

/-! ### Fields of several bytes, most significant byte first, and absent codes (R181) -/

/-- A number in one byte. -/
def byteOf (n : Nat) : Byte := BitVec.ofNat 8 n

/-- A two-byte number. -/
def be16 (n : Nat) : List Byte := [byteOf (n / 256), byteOf n]

/-- A tick in three bytes. -/
def be24 (t : BitVec 24) : List Byte := [t.extractLsb' 16 8, t.extractLsb' 8 8, t.extractLsb' 0 8]

/-- A sensor ID in four bytes. -/
def be32 (i : BitVec 32) : List Byte :=
  [i.extractLsb' 24 8, i.extractLsb' 16 8, i.extractLsb' 8 8, i.extractLsb' 0 8]

/-- 1 for a set flag, 0 for a clear one. -/
def bitOf (b : Bool) : Nat := if b then 1 else 0

/-- A pressure, Pc, leak rate or age; FFFFh when absent. -/
def optBe16 : Option Nat → List Byte
  | some n => be16 n
  | none => [0xFF, 0xFF]

/-- A temperature as °C + 50; FFh when absent or invalid. -/
def optTemp : Option Int → Byte
  | some t => byteOf (t + 50).toNat
  | none => 0xFF

/-- A position; FFh when absent. -/
def optPos : Option Pos → Byte
  | some p => byteOf p.val
  | none => 0xFF

/-- A sensor ID; 00000000h when absent. -/
def optId : Option SensorId → List Byte
  | some i => be32 i
  | none => [0, 0, 0, 0]

/-- A stack entry: bits 2–0 the index, bits 5–4 the origin; FFh when it is not there. -/
def optEntry : Option StackEntry → Byte
  | some e => byteOf (e.index.val + 16 * e.origin.code)
  | none => 0xFF

/-- A whole number of °C in two's complement (Tref). -/
def twosComplement (t : Int) : Byte := BitVec.ofInt 8 t

end Sys2Proof.Machine
end

