-- ==== Sys2Proof/Machine/Operands.lean ====
section
/-! DEFINITION. How a request's bytes are read: data length, bytes sent, fields (R166, R181, R183). -/

namespace Sys2Proof.Machine

/-- The data length of a request: its DLC, with 9 to 15 counted as 8 (R166). -/
def dataLength (r : Request) : Nat := min r.dlc.toNat 8

/-- Byte `i` of a request as a number; `none` where it counts as not sent (R166). -/
def byteAt (r : Request) (i : Nat) : Option Nat :=
  if i < dataLength r then r.data.toList[i]?.map (·.toNat) else none

/-- The two-byte number at byte `i`, sent when the data length reaches its last byte (R181); FFFFh, the absent
code of a pressure, is read as 65,535 (log 31). -/
def wordAt (r : Request) (i : Nat) : Option Nat :=
  match byteAt r i, byteAt r (i + 1) with
  | some hi, some lo => some (hi * 256 + lo)
  | _, _ => none

/-- The sensor ID at byte `i`. -/
def idAt (r : Request) (i : Nat) : Option SensorId :=
  match wordAt r i, wordAt r (i + 2) with
  | some hi, some lo => some (BitVec.ofNat 32 (hi * 65536 + lo))
  | _, _ => none

/-- A byte read in two's complement (Tref, R181). -/
def signedAt (r : Request) (i : Nat) : Option Int :=
  (byteAt r i).map fun n => if n < 128 then (n : Int) else (n : Int) - 256

/-- A byte read as a temperature, °C + 50 (R181, log 18); FFh, the absent code, is read as 205 °C (log 31). -/
def temperatureAt (r : Request) (i : Nat) : Option Int := (byteAt r i).map fun n => (n : Int) - 50

/-- A field of a masked write: selected when its mask bit is set and its bytes are sent (R181). -/
def selected {α : Type} (mask bit : Nat) (value : Option α) : Option α :=
  if mask.testBit bit then value else none

/-- A position named by a number from 0 to 31 (R32). -/
def posOfCode (n : Nat) : Option Pos := if h : n < 32 then some ⟨n, h⟩ else none

/-- An axle named by a number from 0 to 7. -/
def axleOfCode (n : Nat) : Option AxleNo := if h : n < 8 then some ⟨n, h⟩ else none

/-- A slot, or a line, named by a number from 0 to 3. -/
def fourOfCode (n : Nat) : Option (Fin 4) := if h : n < 4 then some ⟨n, h⟩ else none

/-- The position named by a request's mandatory byte 0; `none` where it is refused INVALID. -/
def positionOperand (r : Request) : Option Pos := (byteAt r 0).bind posOfCode

/-- The profile index named by a request's mandatory byte 0. -/
def profileOperand (r : Request) : Option ProfileNo := (byteAt r 0).bind profileOfCode

/-- The number clamped into a range (R2). -/
def clampNat (lo hi n : Nat) : Nat := max lo (min hi n)

/-- The integer clamped into a range (R2). -/
def clampInt (lo hi n : Int) : Int := max lo (min hi n)

end Sys2Proof.Machine
end

