-- ==== Sys2Proof/Machine/Ops.lean ====
section
/-! DEFINITION. The named operations through which every block reaches the state: positions and
axles, tick spans, the transmit queues, answers, and the gate that every request passes. -/

namespace Sys2Proof.Machine

/-! ### Positions and axles (R31, R32) -/

/-- The record of position `p`. -/
def State.pos (s : State) (p : Pos) : Position := s.positions[p.val]

/-- The record of position `p` replaced. -/
def State.setPos (s : State) (p : Pos) (x : Position) : State :=
  { s with positions := s.positions.set p.val x p.isLt }

/-- The record of position `p` changed. -/
def State.modifyPos (s : State) (p : Pos) (f : Position → Position) : State := s.setPos p (f (s.pos p))

/-- Every position record changed, each by its own number and content. -/
def State.mapPos (s : State) (f : Pos → Position → Position) : State :=
  { s with positions := Vector.ofFn fun p => f p (s.pos p) }

/-- The 32 positions in ascending order. -/
def allPositions : List Pos := List.finRange 32

/-- The axle of a position. -/
def axleOf (p : Pos) : AxleNo := ⟨p.val / 4, by omega⟩

/-- The slot of a position on its axle. -/
def slotOf (p : Pos) : Slot := ⟨p.val % 4, by omega⟩

/-- The position at a slot of an axle. -/
def posAt (a : AxleNo) (slot : Slot) : Pos := ⟨4 * a.val + slot.val, by omega⟩

/-- The other tyre of the same side: LO with LI, RI with RO (R72). -/
def partner (p : Pos) : Pos := ⟨if p.val % 2 = 0 then p.val + 1 else p.val - 1, by split <;> omega⟩

/-- Positions 0–15 are in the truck section, 16–31 in the trailer section. -/
def inTruck (p : Pos) : Bool := p.val < 16

/-- Axles 0–3 are in the truck section, 4–7 in the trailer section. -/
def truckAxle (a : AxleNo) : Bool := a.val < 4

/-- Whether a slot exists on an axle of a kind (R31). -/
def slotExists : AxleKind → Slot → Bool
  | .absent, _ => false
  | .single, slot => slot.val == 0 || slot.val == 3
  | .twin, _ => true

/-- The record of axle `a`. -/
def State.axle (s : State) (a : AxleNo) : Axle := s.axles[a.val]

/-- The record of axle `a` replaced. -/
def State.setAxle (s : State) (a : AxleNo) (x : Axle) : State :=
  { s with axles := s.axles.set a.val x a.isLt }

/-- Whether position `p` exists on its axle's kind (R32). -/
def State.posExists (s : State) (p : Pos) : Bool := slotExists (s.axle (axleOf p)).kind (slotOf p)

/-- Whether axle `a` is lifted, as held in the vehicle context (R58). -/
def State.lifted (s : State) (a : AxleNo) : Bool :=
  if a.val < 4 then s.context.truckLifted.getLsbD a.val
  else s.context.trailerLifted.getLsbD (a.val - 4)

/-- The position that holds a sensor ID, the lowest-numbered one (R38; by R35 there is at most one). -/
def State.holder (s : State) (id : SensorId) : Option Pos :=
  allPositions.find? fun p => (s.pos p).sensor == some id

/-- The store section that an axle or a position of a section of the vehicle belongs to (R158). -/
def sectionOf (truck : Bool) : SectionName := if truck then .t else .l

/-! ### Ticks (R1) -/

/-- A tick `n` ticks after `t`, modulo 2^24. -/
def after (t : Tick) (n : Nat) : Tick := t + BitVec.ofNat 24 n

/-- The span from one tick value to a later one, modulo 2^24. -/
def span (earlier later : Tick) : Nat := (later - earlier).toNat

/-- A tick just kept. -/
def keep (t : Tick) : KeptTick := { tick := t, saturated := false }

/-- The span from a kept tick to a later tick, saturating at 2^23 − 1 (R1). -/
def keptSpan (k : KeptTick) (later : Tick) : Nat :=
  if k.saturated then Config.spanMax else min (span k.tick later) Config.spanMax

/-- Whether a duration timer of `n` ticks, started at `start` and running since, has run out (log 2). -/
def ranOut (start : Option Tick) (now : Tick) (n : Nat) : Bool :=
  match start with
  | some t => n ≤ span t now
  | none => false

/-! ### The transmit queues (R171 to R174) -/

/-- Whether a frame is a cyclic position report: the one kind of priority 5 (R171). -/
def TxFrame.cyclic (f : TxFrame) : Bool := identPriority f.ident == 5

/-- A cyclic report that a new frame may take the place of (R173). -/
def TxFrame.replaceable (f : TxFrame) : Bool := f.cyclic && !f.sending

/-- A frame raised for a port: refused while BUS-OFF, queued where there is room, else handled
according to its kind (R171, R173, R174). -/
def PortCtl.enqueue (c : PortCtl) (f : TxFrame) : PortCtl :=
  match c.mode with
  | .busOff _ => if f.cyclic then c else { c with overflow := true }
  | .active =>
    if c.queue.length < Config.queueCapacity then { c with queue := c.queue ++ [f] }
    else if f.cyclic then c
    else if c.queue.any TxFrame.replaceable then
      { c with queue := c.queue.eraseP TxFrame.replaceable ++ [f] }
    else { c with overflow := true }

/-- The controller of a port. -/
def State.port (s : State) (p : Port) : PortCtl := s.ports.get p

/-- The controller of a port replaced. -/
def State.setPort (s : State) (p : Port) (c : PortCtl) : State := { s with ports := s.ports.set p c }

/-- The part's own bus address (R165). -/
def State.address (s : State) : Byte := 0x70 + s.straps.setWidth 8

/-- A frame of the part raised for one port, with the part as sender (R165). -/
def State.send (s : State) (p : Port) (priority : BitVec 3) (cls : BitVec 2) (code target : Byte)
    (data : List Byte) : State :=
  s.setPort p ((s.port p).enqueue
    { ident := frameIdent priority cls code target s.address, data := data, sending := false })

/-- A report raised for one port, with target FFh (R165). -/
def State.report (s : State) (p : Port) (priority : BitVec 3) (code : Byte) (data : List Byte) : State :=
  s.send p priority classReport code Config.allNodes data

/-- A notice raised on both ports, with target FFh and notice priority (R165, R171). -/
def State.notice (s : State) (code : Byte) (data : List Byte) : State :=
  (s.send .a 3 classNotice code Config.allNodes data).send .b 3 classNotice code Config.allNodes data

/-- The frames of one answer, queued together in order at priority 4 on the port of the request, to
its sender (R167). -/
def State.answer (s : State) (r : Request) (code : Byte) (frames : List (List Byte)) : State :=
  frames.foldl (fun s data => s.send r.port 4 classAnswer code r.sender data) s

/-- An answer that carries its outcome alone (R184). -/
def State.reply (s : State) (r : Request) (code : Byte) (o : Reply) : State :=
  s.answer r code [[o.code]]

/-- A refusal or NOT-READY: one frame of data length 1, or 2 with the entry count for READ FOREIGN
(R184). -/
def State.refuse (s : State) (r : Request) (code : Byte) (o : Reply) : State :=
  if code = codeReadForeign then s.answer r code [[o.code, byteOf s.foreign.length]]
  else s.reply r code o

/-! ### The gate of requests and of edits (R144, R161, R166) -/

/-- Whether the port takes the frame as a request: a data frame with a 29-bit identifier, class
REQUEST, for the part or for all nodes, on a port that is ACTIVE (R165, R166, R177). -/
def State.takes (s : State) (r : Request) : Bool :=
  r.form == .data29 && r.cls == 0 && (r.target == s.address || r.target == Config.allNodes) &&
    (s.port r.port).mode == .active

/-- A request as every request is judged first: passed over where the port does not take it,
answered NOT-READY while STARTING, INVALID where its mandatory fields cannot be read; otherwise
the owning block acts (R161, R166). -/
def State.request {α : Type} (s : State) (r : Request) (code : Byte) (operands : Option α)
    (own : α → State → State) : State :=
  if s.takes r then
    if s.phase = .starting then s.refuse r code .notReady
    else match operands with
      | none => s.refuse r code .invalid
      | some x => own x s
  else s

/-- An edit: a request that needs the grant besides (R144). -/
def State.edit {α : Type} (s : State) (r : Request) (code : Byte) (operands : Option α)
    (own : α → State → State) : State :=
  s.request r code operands fun x s =>
    if s.grant.state = .held r.port then own x s else s.refuse r code .noGrant

/-- An accepted edit restarts the idle timer, which stays stopped while a teach session exists
(R144, R147). -/
def State.refreshIdle (s : State) : State :=
  if s.teach.isNone then { s with grant := { s.grant with idleTimer := some s.tick } } else s

/-- The changed mark of a store section set (R150). -/
def State.mark (s : State) (n : SectionName) : State :=
  { s with grant := { s.grant with marks := s.grant.marks.set n true } }

end Sys2Proof.Machine
end

