-- ==== Sys2Proof/Machine/Evaluate.lean ====
section
/-! DEFINITION. The State Evaluator, the Alarm Latch Unit and the Warning Line Driver: figures
(chapter 4), condition tests, latching and the WARN level (chapter 7). -/

namespace Sys2Proof.Machine

/-! ### Figures -/

/-- The index of the active profile: that of the top entry of the stack (R98). -/
def State.activeIndex (s : State) : ProfileNo :=
  match s.stack.getLast? with
  | some e => e.index
  | none => 0

/-- The active profile (R98). -/
def State.activeProfile (s : State) : Profile := s.profiles[s.activeIndex.val]

/-- The cold-equivalent pressure of absolute pressure `pabs` at temperature `t` (R65). -/
def coldPressure (pabs : Nat) (t tref : Int) (ambient : Nat) : Nat :=
  let n : Int := pabs * (tref + 273)
  let d : Int := t + 273
  let q : Int := (2 * n + d).fdiv (2 * d)
  (clampInt 0 1500 (q - ambient)).toNat

/-- The temperature used for Pc: the sample's, else the last valid one, else Tref (R64). -/
def temperatureUsed (sample lastTemp : Option Int) (tref : Int) : Int :=
  match sample, lastTemp with
  | some t, _ => t
  | none, some t => t
  | none, none => tref

/-- Pc computed again from the last sample; kept where its pressure is invalid (R65, R66). -/
def State.withPc (s : State) (x : Position) : Position :=
  match x.sample with
  | none => x
  | some sm =>
    match sm.content.pressure with
    | none => x
    | some pabs =>
      let t := temperatureUsed sm.content.temperature x.lastTemp s.settings.tref
      { x with pc := some (coldPressure pabs t s.settings.tref s.context.ambient) }

/-- The target of the tyres of an axle (R67). -/
def State.target (s : State) (a : AxleNo) : Int :=
  let tu : Int := (s.axle a).unladen
  let tl : Int := (s.axle a).laden
  if s.lifted a then tu else tu + ((tl - tu) * s.context.load).tdiv 100

/-- The three pressure thresholds (R68). -/
structure Thresholds where
  lowWarning : Int
  lowCritical : Int
  highWarning : Int
deriving DecidableEq, Repr

/-- The thresholds drawn from a target by a profile (R68). -/
def thresholds (target : Int) (pr : Profile) : Thresholds :=
  { lowWarning := (target * pr.uw).fdiv 1000
    lowCritical := (target * pr.uc).fdiv 1000
    highWarning := (target * pr.ow).fdiv 1000 }

/-- The leak history after a sample that gave `pc` at tick `t` (R69). -/
def leakAppend (h : List LeakEntry) (pc : Nat) (t : Tick) : List LeakEntry :=
  let kept := match h.getLast? with
    | some newest => if keptSpan newest.tick t > Config.leakGapTicks then [] else h
    | none => h
  let grown := kept ++ [{ pc := pc, tick := keep t }]
  if grown.length > Config.leakHistoryMax then grown.tail else grown

/-- The leak rate of a history, kPa per minute (R70). -/
def leakRateOf (h : List LeakEntry) : Option Nat :=
  match h.head?, h.getLast? with
  | some oldest, some newest =>
    if h.length < 2 then none
    else
      let ticks := keptSpan oldest.tick newest.tick.tick
      if ticks < Config.leakMinTicks then none
      else if newest.pc < oldest.pc then some (min 999 ((oldest.pc - newest.pc) * 600 / ticks))
      else some 0
  | _, _ => none

/-- The difference of the twin pair that `p` is a member of, where the pair has one (R72). -/
def State.pairDiff (s : State) (p : Pos) : Option Nat :=
  let x := s.pos p
  let y := s.pos (partner p)
  if (s.axle (axleOf p)).kind = .twin ∧ x.state = .active ∧ y.state = .active ∧
      s.lifted (axleOf p) = false ∧ hasKind s.activeProfile.enable .imbalance = true then
    match x.pc, y.pc with
    | some a, some b => some (max a b - min a b)
    | _, _ => none
  else none

/-! ### Condition tests (R113 to R116) -/

/-- The set test of a kind (R113, R114). MISSING has none. -/
def setTest (pr : Profile) (th : Thresholds) (diff : Option Nat) (x : Position) : Kind → Bool
  | .underW => match x.pc with
    | some pc => (pc : Int) < th.lowWarning
    | none => false
  | .underC => match x.pc with
    | some pc => (pc : Int) < th.lowCritical
    | none => false
  | .overW => match x.pc with
    | some pc => th.highWarning < (pc : Int)
    | none => false
  | .leak => match x.leakRate with
    | some rate => pr.lk ≤ rate
    | none => false
  | .tempW => match x.sample.bind (·.content.temperature) with
    | some t => pr.tw ≤ t
    | none => false
  | .tempC => match x.sample.bind (·.content.temperature) with
    | some t => pr.tc ≤ t
    | none => false
  | .imbalance => match diff with
    | some d => pr.ib ≤ d
    | none => false
  | .missing => false
  | .sensorFault => match x.sample with
    | some sm => sm.content.pressure.isNone || sm.content.temperature.isNone || sm.content.sensorFault
    | none => false
  | .batteryLow => match x.sample with
    | some sm => sm.content.batteryLow
    | none => false

/-- The clear test of a kind (R113, R114). -/
def clearTest (pr : Profile) (th : Thresholds) (diff : Option Nat) (x : Position) : Kind → Bool
  | .underW => match x.pc with
    | some pc => th.lowWarning + pr.hyst ≤ (pc : Int)
    | none => true
  | .underC => match x.pc with
    | some pc => th.lowCritical + pr.hyst ≤ (pc : Int)
    | none => true
  | .overW => match x.pc with
    | some pc => (pc : Int) ≤ th.highWarning - pr.hyst
    | none => true
  | .leak => match x.leakRate with
    | some rate => rate < pr.lk / 2
    | none => true
  | .tempW => match x.sample.bind (·.content.temperature) with
    | some t => t ≤ pr.tw - pr.th
    | none => false
  | .tempC => match x.sample.bind (·.content.temperature) with
    | some t => t ≤ pr.tc - pr.th
    | none => false
  | .imbalance => match diff with
    | some d => (d : Int) < (pr.ib : Int) - pr.hyst
    | none => true
  | .missing => false
  | .sensorFault => match x.sample with
    | some sm => sm.content.pressure.isSome && sm.content.temperature.isSome && !sm.content.sensorFault
    | none => false
  | .batteryLow => match x.sample with
    | some sm => !sm.content.batteryLow
    | none => false

/-- Whether a kind is live after it is tested: a disabled kind is not; a live one stays unless its
clear test holds; one not live becomes live when its set test holds (R113, R116). -/
def liveAfterTest (pr : Profile) (th : Thresholds) (diff : Option Nat) (x : Position) (k : Kind) : Bool :=
  if hasKind pr.enable k then
    if hasKind x.live k then !clearTest pr th diff x k else setTest pr th diff x k
  else false

/-- The live set of `p` after the kinds chosen by `which` are tested, the others kept (R115). -/
def State.testedLive (s : State) (p : Pos) (which : Kind → Bool) : KindMask :=
  let x := s.pos p
  let pr := s.activeProfile
  let th := thresholds (s.target (axleOf p)) pr
  let diff := s.pairDiff p
  maskOf fun k => if which k then liveAfterTest pr th diff x k else hasKind x.live k

/-- Every kind except MISSING: what a sample at the position or a re-evaluation tests (R115). -/
def allButMissing (k : Kind) : Bool := k != .missing

/-- IMBALANCE alone: what a sample tests at the twin partner (R73, R115). -/
def imbalanceOnly (k : Kind) : Bool := k == .imbalance

/-- A live set stored at a position. -/
def State.setLive (s : State) (p : Pos) (m : KindMask) : State :=
  s.modifyPos p fun x => { x with live := m }

/-- IMBALANCE removed at the twin partner of `p` (R118). -/
def State.dropPartnerImbalance (s : State) (p : Pos) : State :=
  s.modifyPos (partner p) fun x => { x with live := dropKind x.live .imbalance }

/-! ### Latching and reports (R119 to R122, R182, R185) -/

/-- The temperature of a position's last sample, if valid. -/
def Position.sampleTemp (x : Position) : Option Int := x.sample.bind (·.content.temperature)

/-- A kind latched on both ports' sides of a position; a capture is made where a set was empty (R120). -/
def Position.latch (x : Position) (k : Kind) (c : Capture) : Position :=
  { x with
    latched := { a := addKind x.latched.a k, b := addKind x.latched.b k }
    capture := { a := if x.latched.a = 0 then some c else x.capture.a
                 b := if x.latched.b = 0 then some c else x.capture.b } }

/-- The bytes of an ALARM EVENT (R185). -/
def alarmBytes (p : Pos) (k : Kind) (cause : AlarmCause) (now : Tick) (x : Position) : List Byte :=
  [byteOf p.val, byteOf (16 * cause.code + k.bit)] ++ be24 now ++ optBe16 x.pc ++ [optTemp x.sampleTemp]

/-- The priority of an ALARM EVENT: 1 for a CRITICAL kind, else 2 (R121). -/
def alarmPriority (k : Kind) : BitVec 3 := if k.severity = .critical then 1 else 2

/-- One transition taken by the Alarm Latch Unit: latched, captured and reported on both ports (R120). -/
def State.latchOne (cause : AlarmCause) (s : State) (t : Pos × Kind) : State :=
  let x := s.pos t.1
  let c : Capture := { kind := t.2, tick := s.tick, pc := x.pc, temperature := x.sampleTemp }
  let data := alarmBytes t.1 t.2 cause s.tick x
  ((s.setPos t.1 (x.latch t.2 c)).report .a (alarmPriority t.2) codeAlarmEvent data).report .b
    (alarmPriority t.2) codeAlarmEvent data

/-- A batch of transitions, taken one at a time in the order handed (R120). -/
def State.latchAll (s : State) (cause : AlarmCause) (ts : List (Pos × Kind)) : State :=
  ts.foldl (State.latchOne cause) s

/-- The bytes of a position report sent on a port (R182). -/
def reportBytes (p : Pos) (x : Position) (latched : KindMask) : List Byte :=
  [byteOf p.val, byteOf (16 * x.state.code + (highestSeverity x.live).code)] ++ optBe16 x.pc ++
    [optTemp x.sampleTemp] ++ be24 ((x.live ++ latched).setWidth 24)

/-- The position report of `p` as it now stands, for a port (R171). -/
def State.positionReport (s : State) (p : Pos) (port : Port) : List Byte :=
  reportBytes p (s.pos p) ((s.pos p).latched.get port)

/-! ### The WARN level (R125 to R128) -/

/-- The counted kinds over all positions (R125). -/
def State.counted (s : State) : KindMask :=
  allPositions.foldl (fun m p => m ||| countedAt s.settings.lampPorts (s.pos p)) 0

/-- The level recomputed from the sets as they now stand; FLASH entered afresh starts its pattern,
and leaving it takes the new level at once (R125, R127, R128). -/
def State.recomputeWarn (s : State) : State :=
  let level := levelOf s.counted
  if level = s.warn.level then s
  else
    { s with warn :=
        { level := level
          phaseStart := if level = .flash then s.tick else s.warn.phaseStart
          high := level != .off } }

/-! ### Evaluation (R74, R76) -/

/-- The figures of an accepted sample: Pc, leak history and leak rate, kept where the pressure is
invalid (R74 steps 1 and 2). -/
def State.withFigures (s : State) (d : Delivery) (x : Position) : Position :=
  match d.content.pressure with
  | none => x
  | some _ =>
    let y := s.withPc x
    match y.pc with
    | none => y
    | some pc =>
      let h := leakAppend y.leakHistory pc d.tick
      { y with leakHistory := h, leakRate := leakRateOf h }

/-- The condition tests of an accepted sample at `p` and, for IMBALANCE, at its twin partner; the
transitions go to the Alarm Latch Unit, those of `p` first (R74 steps 3 to 6). -/
def State.evaluateSample (s : State) (p : Pos) : State :=
  let q := partner p
  let old := (s.pos p).live
  let new := s.testedLive p allButMissing
  let oldTwin := (s.pos q).live
  let newTwin :=
    if (s.axle (axleOf p)).kind = .twin then s.testedLive q imbalanceOnly else oldTwin
  let ts := (transitions old new).map (fun k => (p, k)) ++ (transitions oldTwin newTwin).map (fun k => (q, k))
  ((s.setLive p new).setLive q newTwin).latchAll .sample ts

/-- Every ACTIVE position's Pc computed again (R76 step 1). -/
def State.recomputeAllPc (s : State) : State :=
  s.mapPos fun _ x => if x.state = .active then s.withPc x else x

/-- Every ACTIVE position's conditions tested again (R76 steps 2 to 4). -/
def State.retestAll (s : State) : State :=
  s.mapPos fun p x => if x.state = .active then { x with live := s.testedLive p allButMissing } else x

/-- The transitions between two states, positions ascending, kinds in mask bit order (R76). -/
def transitionsBetween (before after : State) : List (Pos × Kind) :=
  allPositions.flatMap fun p =>
    (transitions (before.pos p).live (after.pos p).live).map fun k => (p, k)

/-- A re-evaluation, taken whole (R76, R77). -/
def State.reevaluate (s : State) : State :=
  let measured := s.recomputeAllPc
  let tested := measured.retestAll
  tested.latchAll .reEvaluation (transitionsBetween measured tested)

end Sys2Proof.Machine
end

