-- ==== Sys2Proof/Machine/Supervise.lean ====
section
/-! DEFINITION. The Supervision Unit: learned intervals, deadlines, expiry into MISSING, and what a
hold does to them (chapter 5). -/

namespace Sys2Proof.Machine

/-- The timeout of a motion mode (R82). -/
def timeoutOf (interval : Option Nat) (moving : Bool) : Nat :=
  match interval with
  | some i => clampNat 300 18000 (4 * i)
  | none => if moving then 600 else 6000

/-- The interval captured by a sample, where one is: the position was ACTIVE, a previous sample is
present, and both have the same motion flag (R81). -/
def capturedInterval (before : Position) (d : Delivery) : Option Nat :=
  match before.sample with
  | some prev =>
    if before.state = .active ∧ prev.content.motion = d.content.motion then
      some (clampNat 50 6000 (keptSpan prev.tick d.tick))
    else none
  | none => none

/-- Interval capture, then the new deadline (R80, R83). `before` is the position before this
acceptance, `x` the position with the sample already in place. -/
def supervise (before : Position) (d : Delivery) (x : Position) : Position :=
  let moving := if d.content.motion then (capturedInterval before d).orElse (fun _ => x.intervalMoving)
    else x.intervalMoving
  let stationary := if d.content.motion then x.intervalStationary
    else (capturedInterval before d).orElse (fun _ => x.intervalStationary)
  { x with
    intervalMoving := moving
    intervalStationary := stationary
    deadline := some (after d.tick (timeoutOf (if d.content.motion then moving else stationary)
      d.content.motion)) }

/-- A position falls MISSING: its deadline goes, its live set is frozen less IMBALANCE, which leaves
the partner too, and MISSING is added where the active profile enables it (R85, R116). -/
def State.fallMissing (s : State) (p : Pos) : State :=
  let x := s.pos p
  let frozen := dropKind x.live .imbalance
  let live := if hasKind s.activeProfile.enable .missing then addKind frozen .missing else frozen
  let s1 := (s.setPos p { x with state := .missing, deadline := none, live := live }).dropPartnerImbalance p
  s1.latchAll .expiry ((transitions frozen live).map fun k => (p, k))

/-- A hold taken at `p` (R52). -/
def State.takeHold (s : State) (p : Pos) : State :=
  let x := s.pos p
  (s.setPos p
    { x with
      state := .held
      beforeHold := some x.state
      remaining := x.deadline.map (span s.tick)
      deadline := none
      live := 0
      leakHistory := []
      leakRate := none }).dropPartnerImbalance p

/-- A hold restored at `p`, as UNHOLD and teach case 1 restore it (R53, R54, R88, R117): ACTIVE or
WAITING with the deadline made of the remaining time, at once MISSING where that is 0; or MISSING. -/
def State.restoreHold (s : State) (p : Pos) : State :=
  let x := s.pos p
  match x.beforeHold with
  | none => s
  | some .missing =>
    let live := if hasKind s.activeProfile.enable .missing then addKind x.live .missing else x.live
    (s.setPos p { x with state := .missing, beforeHold := none, remaining := none, live := live }).latchAll
      .restore ((transitions x.live live).map fun k => (p, k))
  | some st =>
    let deadline := x.remaining.map (after s.tick)
    let s1 := s.setPos p { x with state := st, beforeHold := none, remaining := none, deadline := deadline }
    if deadline = some s.tick then s1.fallMissing p else s1

end Sys2Proof.Machine
end

