-- ==== Sys2Proof/Machine/Table.lean ====
section
/-! DEFINITION. The Wheel Table: record resets, acceptance of samples, the Foreign Sensor List and
trailer coupling (chapter 3). -/

namespace Sys2Proof.Machine

/-- The state of a position whose record is reset (R36). -/
def stateAfterReset (p : Pos) (id : Option SensorId) (trailerPresent : Bool) : PosState :=
  match id with
  | none => .unassigned
  | some _ => if inTruck p || trailerPresent then .waiting else .detached

/-- The Foreign Sensor List without the entry of an assigned ID (R46). -/
def foreignWithout (l : List ForeignEntry) (id : Option SensorId) : List ForeignEntry :=
  l.filter fun e => some e.id != id

/-- A record reset: every field emptied, the new ID or none stored, the state taken from it; the
WAITING deadline set, the twin partner's IMBALANCE and the ID's foreign entry removed (R36, R46,
R84, R118). -/
def State.recordReset (s : State) (p : Pos) (id : Option SensorId) : State :=
  let st := stateAfterReset p id s.trailerPresent
  let deadline := if st = .waiting then some (after s.tick Config.waitingTicks) else none
  let s1 := s.setPos p { Position.empty with sensor := id, state := st, deadline := deadline }
  { s1.dropPartnerImbalance p with foreign := foreignWithout s.foreign id }

/-! ### Foreign sensors (R44, R45) -/

/-- The entry of a foreign delivery, made or updated (R45). -/
def foreignEntry (old : Option ForeignEntry) (d : Delivery) : ForeignEntry :=
  match old with
  | some e =>
    { id := d.id, hits := min 255 (e.hits + 1), rssi := d.heard.bestRssi, lineMask := d.heard.lineMask,
      tick := keep d.tick, motionSeen := e.motionSeen || d.content.motion }
  | none =>
    { id := d.id, hits := 1, rssi := d.heard.bestRssi, lineMask := d.heard.lineMask,
      tick := keep d.tick, motionSeen := d.content.motion }

/-- The Foreign Sensor List after a foreign delivery: the entry at the front, the last one removed
where a new one finds eight (R45). -/
def foreignUpdate (l : List ForeignEntry) (d : Delivery) : List ForeignEntry :=
  let old := l.find? fun e => e.id == d.id
  let rest := l.filter fun e => e.id != d.id
  foreignEntry old d :: rest.take (Config.foreignCapacity - 1)

/-! ### Acceptance (R40 to R43) -/

/-- Whether a delivery repeats the last sample's transmission (R41). -/
def stale (x : Position) (d : Delivery) : Bool :=
  match x.sample with
  | some sm => sm.seq == d.seq && keptSpan sm.tick d.tick < Config.staleTicks
  | none => false

/-- The delivery in place as last sample; the position ACTIVE and no longer MISSING (R42, R43, R117). -/
def landSample (d : Delivery) (x : Position) : Position :=
  { x with
    sample := some { content := d.content, seq := d.seq, heard := d.heard, tick := keep d.tick }
    lastTemp := d.content.temperature.orElse fun _ => x.lastTemp
    state := .active
    live := dropKind x.live .missing }

/-- A delivery accepted as the sample of `p`: the Supervision Unit, the State Evaluator, the Alarm
Latch Unit and, for an ALERT, the forced report on both ports, in this order (R43, R176). -/
def State.accept (s : State) (p : Pos) (d : Delivery) : State :=
  let x := s.pos p
  let s1 := (s.setPos p (s.withFigures d (supervise x d (landSample d x)))).evaluateSample p
  if d.content.kind = .alert then
    (s1.report .a 2 codePositionReport (s1.positionReport p .a)).report .b 2 codePositionReport
      (s1.positionReport p .b)
  else s1

/-- A sample judged at `p` as steps 3 to 5 of R40 judge it: accepted at a WAITING, ACTIVE or MISSING
position, dropped at any other. -/
def State.landNormally (s : State) (p : Pos) (d : Delivery) : State :=
  match (s.pos p).state with
  | .waiting => s.accept p d
  | .active => s.accept p d
  | .missing => s.accept p d
  | .unassigned => s
  | .held => s
  | .detached => s

/-! ### Trailer coupling (R49, R50) -/

/-- A trailer position as the decoupling leaves it (R49). -/
def detach (x : Position) : Position :=
  if x.sensor.isSome then
    { x with state := .detached, beforeHold := none, deadline := none, remaining := none, live := 0 }
  else x

/-- The trailer section decoupled (R49). -/
def State.decouple (s : State) : State :=
  { s.mapPos (fun p x => if inTruck p then x else detach x) with trailerPresent := false }

/-- The trailer section recoupled (R50, R84). -/
def State.recouple (s : State) : State :=
  { s.mapPos (fun _ x => if x.state = .detached then
      { x with state := .waiting, deadline := some (after s.tick Config.waitingTicks) } else x) with
    trailerPresent := true }

/-! ### Visiting orders and reads (R55) -/

/-- The slot visited `i`-th from a start slot (R55). -/
def visitedSlot (order : VisitOrder) (start : Slot) (i : Nat) : Slot :=
  match order with
  | .linear => ⟨(start.val + i) % 4, by omega⟩
  | .twin => ⟨(start.val ^^^ i) % 4, by omega⟩

/-- The existing positions visited on an axle, in order (R55). -/
def State.visited (s : State) (a : AxleNo) (order : VisitOrder) (start : Slot) (count : Nat) : List Pos :=
  ((List.range count).map fun i => posAt a (visitedSlot order start i)).filter s.posExists

/-- Whether an axle is present for the cyclic rotation (R175). -/
def State.axlePresent (s : State) (a : AxleNo) : Bool :=
  (s.axle a).kind != .absent && (truckAxle a || s.trailerPresent)

end Sys2Proof.Machine
end

