-- ==== Sys2Proof/Machine/Teach.lean ====
section
/-! DEFINITION. The Teach Controller: the walk's session, the five trigger cases, removals from the
queue and endings (chapter 8), and the delivery lookup that feeds it (R38 to R40). -/

namespace Sys2Proof.Machine

/-- A session ends: TEACH END on both ports, the session removed, the idle timer restarted (R142).
Where the ending is part of a tenure end, the timer is stopped with the tenure (R151). -/
def State.endTeach (s : State) (o : TeachOutcome) : State :=
  match s.teach with
  | none => s
  | some t =>
    { s.notice codeTeachEnd [o.code, byteOf t.count] with
      teach := none
      grant := { s.grant with idleTimer := some s.tick } }

/-- The bytes of TEACH PROGRESS (R143, R185). -/
def progressBytes (h : Pos) (id : Option SensorId) (caseNo count : Nat) (left : List Pos) : List Byte :=
  [byteOf h.val] ++ optId id ++ [byteOf (32 * caseNo + left.length % 32), byteOf count, optPos left.head?]

/-- The walk advances past its head `h`, taught by a trigger of the given case (R139). -/
def State.advanceTeach (s : State) (t : TeachSession) (h : Pos) (rest : List Pos) (caseNo : Nat) : State :=
  let count := min 255 (t.count + 1)
  let t' : TeachSession :=
    { t with
      queue := rest
      taught := t.taught ++ [h]
      count := count
      stepDeadline := if rest.isEmpty then t.stepDeadline else after s.tick Config.teachStepTicks }
  let s1 := ({ s with teach := some t' }).notice codeTeachProgress
    (progressBytes h (s.pos h).sensor caseNo count rest)
  if rest.isEmpty then s1.endTeach .complete else s1

/-- Positions leave the queue and, where `taught` says so, the taught set; a new head gets a fresh
step deadline; an emptied queue ends the session (R140, R141). -/
def State.removeFromTeach (s : State) (gone : Pos → Bool) (alsoTaught : Bool) (o : TeachOutcome) : State :=
  match s.teach with
  | none => s
  | some t =>
    let queue := t.queue.filter fun p => !gone p
    let t' : TeachSession :=
      { t with
        queue := queue
        taught := if alsoTaught then t.taught.filter (fun p => !gone p) else t.taught
        stepDeadline := if queue.head? = t.queue.head? then t.stepDeadline
          else after s.tick Config.teachStepTicks }
    if queue.isEmpty then ({ s with teach := some t' }).endTeach o
    else { s with teach := some t' }

/-- A sensor ID moved or assigned by a teach record reset, marked as a change (R138, R150). -/
def State.teachReset (s : State) (p : Pos) (id : Option SensorId) : State :=
  (s.recordReset p id).mark (sectionOf (inTruck p))

/-- Case 1: the head's own sensor confirms itself (R136). -/
def State.teachConfirm (s : State) (t : TeachSession) (h : Pos) (rest : List Pos) (d : Delivery) : State :=
  let s1 := if (s.pos h).state = .held then s.restoreHold h else s
  (s1.landNormally h d).advanceTeach t h rest 1

/-- Cases 4 and 5: the head receives the sensor; in case 4 it leaves `q` first (R138). -/
def State.teachAssign (s : State) (t : TeachSession) (h : Pos) (rest : List Pos) (d : Delivery)
    (q : Option Pos) : State :=
  let s1 := match q with
    | some q => s.teachReset q none
    | none => s
  ((s1.teachReset h (some d.id)).landNormally h d).advanceTeach t h rest (if q.isSome then 4 else 5)

/-- The notice that a trigger did not move the walk (R137, R143, R185). -/
def State.teachIgnored (s : State) (code : Byte) (id : SensorId) (p h : Pos) : State :=
  s.notice code (be32 id ++ [byteOf p.val, byteOf h.val])

/-- A trigger taken during a session, sorted by where its sensor is held (R135). -/
def State.teachTrigger (s : State) (t : TeachSession) (d : Delivery) : State :=
  match t.queue with
  | [] => s
  | h :: rest =>
    match s.holder d.id with
    | some q =>
      if q = h then s.teachConfirm t h rest d
      else if t.taught.contains q then (s.landNormally q d).teachIgnored codeTeachRepeat d.id q h
      else if s.grant.truckLock && (inTruck q || inTruck h) then
        (s.landNormally q d).teachIgnored codeTeachLocked d.id (if inTruck q then q else h) h
      else s.teachAssign t h rest d (some q)
    | none =>
      if s.grant.truckLock && inTruck h then
        ({ s with foreign := foreignUpdate s.foreign d }).teachIgnored codeTeachLocked d.id h h
      else s.teachAssign t h rest d none

/-- The session that takes a delivery: a TRIGGER while one is active (R39, R40 step 2). -/
def State.sessionFor (s : State) (d : Delivery) : Option TeachSession :=
  if d.content.kind = .trigger then s.teach else none

/-- A delivery taken by the wheel table, whole: looked up, then routed by R39 or judged by R40. The
WARN level is that of the sets the delivery leaves (R128). -/
def State.deliver (s : State) (d : Delivery) : State :=
  match s.holder d.id with
  | none =>
    match s.sessionFor d with
    | some t => (s.teachTrigger t d).recomputeWarn
    | none => { s with foreign := foreignUpdate s.foreign d }
  | some p =>
    if stale (s.pos p) d then s
    else match s.sessionFor d with
      | some t => (s.teachTrigger t d).recomputeWarn
      | none => (s.landNormally p d).recomputeWarn

/-- The checks of a TEACH START or TEACH APPEND list against the queue and taught set of the session
(R130): `none` where it passes. -/
def State.judgeList (s : State) (queue taught list : List Pos) : Option Reply :=
  if list.isEmpty then some .invalid
  else if list.any (fun p => !s.posExists p) then some .invalid
  else if list.any (fun p => !inTruck p && !s.trailerPresent) then some .invalid
  else if ¬ list.Nodup then some .invalid
  else if list.any (fun p => queue.contains p || taught.contains p) then some .invalid
  else if queue.length + list.length > 32 then some .invalid
  else if s.grant.truckLock && list.any inTruck then some .locked
  else none

end Sys2Proof.Machine
end

