-- ==== Sys2Proof/Machine/Grant.lean ====
section
/-! DEFINITION. The Edit Grant Controller: handover, tenure end, port reset (chapter 9, R178). -/

namespace Sys2Proof.Machine

/-- The tenure of a port begins: the marks clear, the idle timer at 30 s (R146, R152). -/
def State.beginTenure (s : State) (p : Port) (waiting : List Port) : State :=
  { s with grant :=
      { s.grant with
        state := .held p
        waiting := waiting
        marks := .all false
        idleTimer := some s.tick } }

/-- The handover: to the oldest waiter with a GRANTED notice on both ports, else FREE (R152). -/
def State.handover (s : State) : State :=
  match s.grant.waiting with
  | [] => { s with grant := { s.grant with state := .free } }
  | p :: rest => (s.beginTenure p rest).notice codeGranted [byteOf (portCode p)]

/-- The revision after a tenure with changes: 1 after 65,535 and after 0 (R151 step 3). -/
def nextRevision (r : Word16) : Word16 := if r = 0xFFFF then 1 else r + 1

/-- The marked sections in the order T, L, P, P among them (R151 steps 3 and 5). -/
def sectionsToSave (m : PerSection Bool) : List SectionName :=
  (if m.t then [.t] else []) ++ (if m.l then [.l] else []) ++ [.p]

/-- Whether any changed mark is set. -/
def anyMark (m : PerSection Bool) : Bool := m.t || m.l || m.p

/-- The bytes of TABLE REVISION (R185). -/
def revisionBytes (rev : Word16) (m : PerSection Bool) (p : Port) : List Byte :=
  be16 rev.toNat ++ [byteOf (bitOf m.t + 2 * bitOf m.l + 4), byteOf (portCode p)]

/-- The tenure of port `p` ends (R151, steps 1 to 5; the answer of step 6 is the releasing
request's). -/
def State.endTenure (s : State) (p : Port) : State :=
  let s1 := s.endTeach .aborted
  let s2 := { s1 with grant := { s1.grant with idleTimer := none } }
  if anyMark s2.grant.marks then
    let rev := nextRevision s2.grant.revision
    let s3 := ({ s2 with grant := { s2.grant with revision := rev } }).notice codeTableRevision
      (revisionBytes rev s2.grant.marks p)
    { s3 with grant :=
        { s3.grant with
          state := .saving
          toSave := sectionsToSave s2.grant.marks
          marks := .all false } }
  else s2.handover

/-- A port removed from the waiting list, the others keeping their order (R148, R149). -/
def State.stopWaiting (s : State) (p : Port) : State :=
  { s with grant := { s.grant with waiting := s.grant.waiting.filter (· != p) } }

/-- What a port reset of `p` does to the grant (R149). -/
def State.grantPortReset (s : State) (p : Port) : State :=
  if s.grant.state = .held p then s.endTenure p else s.stopWaiting p

/-- A port enters BUS-OFF and the port reset is carried out: the queue emptied with the overflow
flag set where it held a frame other than a cyclic report, the count and the rotation at 0, the
period timer stopped, then the grant (R177, R178, R175). -/
def State.portReset (s : State) (p : Port) : State :=
  let c := s.port p
  (s.setPort p
    { mode := .busOff s.tick
      queue := []
      errors := 0
      periodDue := none
      nextAxle := 0
      overflow := c.overflow || c.queue.any (fun f => !f.cyclic) }).grantPortReset p

end Sys2Proof.Machine
end

