-- ==== Sys2Proof/Machine/Stack.lean ====
section
/-! DEFINITION. The Profile Unit: stack changes, profile writes (chapter 6). -/

namespace Sys2Proof.Machine

/-- What a stack change did, for its STACK CHANGED report (R109). -/
structure StackChange where
  cause : StackCause
  port : Option Port
  stack : List StackEntry
  discarded : Option StackEntry
  fallBack : Bool
  topChanged : Bool
deriving DecidableEq, Repr

/-- The bytes of STACK CHANGED (R185). -/
def stackBytes (c : StackChange) : List Byte :=
  [ byteOf (c.cause.code + 4 * (match c.port with
      | some p => portCode p
      | none => 3)
      + 16 * bitOf c.discarded.isSome + 32 * bitOf c.fallBack + 64 * bitOf c.topChanged),
    optEntry c.discarded, byteOf c.stack.length,
    optEntry c.stack[0]?, optEntry c.stack[1]?, optEntry c.stack[2]? ]

/-- A stack change carried out: the stack, the report on both ports, and where the top changed one
re-evaluation (R99). -/
def State.changeStack (s : State) (c : StackChange) : State :=
  let data := stackBytes c
  let s1 := (({ s with stack := c.stack }).report .a 3 codeStackChanged data).report .b 3 codeStackChanged data
  if c.topChanged then s1.reevaluate else s1

/-- The change that a push makes: on a full stack the bottom entry is discarded first (R100, R106). -/
def pushChange (stack : List StackEntry) (e : StackEntry) (cause : StackCause) (port : Option Port) :
    StackChange :=
  let full := stack.length ≥ Config.stackCapacity
  { cause := cause, port := port
    stack := (if full then stack.tail else stack) ++ [e]
    discarded := if full then stack.head? else none
    fallBack := false, topChanged := true }

/-- Whether a stack entry has the given origin. -/
def hasOrigin (o : Origin) (e : StackEntry) : Bool := e.origin == o

/-- The stack without its topmost entry of an origin (R102, R107). -/
def withoutTopmost (stack : List StackEntry) (o : Origin) : List StackEntry :=
  (stack.reverse.eraseP (hasOrigin o)).reverse

/-- The change that a removal by origin makes, with the fall-back of R103; `none` where the stack
holds no entry of that origin (R102, R107). -/
def popChange (stack : List StackEntry) (o : Origin) (cause : StackCause) (port : Option Port) :
    Option StackChange :=
  if stack.any (hasOrigin o) then
    let left := withoutTopmost stack o
    let top := match stack.getLast? with
      | some e => hasOrigin o e
      | none => false
    some
      { cause := cause, port := port
        stack := if left.isEmpty then [{ index := 0, origin := .reset }] else left
        discarded := none
        fallBack := left.isEmpty
        topChanged := left.isEmpty || top }
  else none

/-- The body state becomes RAISED: the tipping profile is pushed, unless the setting is NONE (R106). -/
def State.bodyRises (s : State) : State :=
  match s.settings.tipping with
  | none => s
  | some i => s.changeStack (pushChange s.stack { index := i, origin := .body } .bodyRaised none)

/-- The body state becomes LOWERED: the topmost BODY entry is removed, if there is one (R107). -/
def State.bodyFalls (s : State) : State :=
  match popChange s.stack .body .bodyLowered none with
  | none => s
  | some c => s.changeStack c

/-! ### Profile writes (R95, R186) -/

/-- The fields that a WRITE PROFILE selects. -/
structure ProfileWrite where
  index : ProfileNo
  enable : Option Nat
  uw : Option Nat
  uc : Option Nat
  ow : Option Nat
  hyst : Option Nat
  tw : Option Int
  tc : Option Int
  th : Option Nat
  ib : Option Nat
  lk : Option Nat
deriving DecidableEq, Repr

/-- The record with the selected fields replaced by the values carried (R96). -/
def ProfileWrite.apply (w : ProfileWrite) (pr : Profile) : Profile :=
  { enable := (w.enable.map (BitVec.ofNat 10)).getD pr.enable
    uw := w.uw.getD pr.uw
    uc := w.uc.getD pr.uc
    ow := w.ow.getD pr.ow
    hyst := w.hyst.getD pr.hyst
    tw := w.tw.getD pr.tw
    tc := w.tc.getD pr.tc
    th := w.th.getD pr.th
    ib := w.ib.getD pr.ib
    lk := w.lk.getD pr.lk }

/-- Stage 1 of R95: each field clamped into its range of R93. -/
def Profile.clampFields (pr : Profile) : Profile :=
  { pr with
    uw := clampNat 500 990 pr.uw
    uc := clampNat 400 980 pr.uc
    ow := clampNat 1010 1500 pr.ow
    hyst := clampNat 0 50 pr.hyst
    tw := clampInt 40 150 pr.tw
    tc := clampInt 45 160 pr.tc
    th := clampNat 1 20 pr.th
    ib := clampNat 20 300 pr.ib
    lk := clampNat 5 200 pr.lk }

/-- Stage 2 of R95: uc below uw, tc at least tw + 5. -/
def Profile.crossAdjust (pr : Profile) : Profile :=
  { pr with
    uc := if pr.uc ≥ pr.uw then pr.uw - 10 else pr.uc
    tc := if pr.tc < pr.tw + 5 then pr.tw + 5 else pr.tc }

/-- Whether any field is selected. -/
def ProfileWrite.anySelected (w : ProfileWrite) : Bool :=
  w.enable.isSome || w.uw.isSome || w.uc.isSome || w.ow.isSome || w.hyst.isSome || w.tw.isSome ||
    w.tc.isSome || w.th.isSome || w.ib.isSome || w.lk.isSome

/-- A WRITE PROFILE read from its frame; `none` where it is refused INVALID (R96, R183, R186). A selected
field sent as an absent code is taken as the number it spells (log 31). -/
def profileWriteOperand (r : Request) : Option ProfileWrite :=
  match profileOperand r, byteAt r 1 with
  | some i, some b =>
    let w : ProfileWrite :=
      { index := i, enable := none, uw := none, uc := none, ow := none, hyst := none, tw := none,
        tc := none, th := none, ib := none, lk := none }
    match b / 64 with
    | 0 => some { w with
        enable := selected b 0 (wordAt r 2)
        uw := selected b 1 (wordAt r 4)
        uc := selected b 2 (wordAt r 6) }
    | 1 => some { w with
        ow := selected b 0 (wordAt r 2)
        hyst := selected b 1 (byteAt r 4)
        tw := selected b 2 (temperatureAt r 5)
        tc := selected b 3 (temperatureAt r 6)
        th := selected b 4 (byteAt r 7) }
    | 2 => some { w with
        ib := selected b 0 (wordAt r 2)
        lk := selected b 1 (byteAt r 4) }
    | _ => none
  | _, _ => none

/-- The record of a profile replaced. -/
def State.setProfile (s : State) (i : ProfileNo) (pr : Profile) : State :=
  { s with profiles := s.profiles.set i.val pr i.isLt }

/-- The record of profile `i`. -/
def State.profile (s : State) (i : ProfileNo) : Profile := s.profiles[i.val]

end Sys2Proof.Machine
end

