-- ==== Sys2Proof/WellFormed.lean ====
section
/-! DEFINITION. Which terms of `Instr` are commands of the part. -/

namespace Sys2Proof

/-- The codes of R180 that name a request. -/
def requestCodes : List Byte :=
  [0x01, 0x02, 0x03, 0x04, 0x05, 0x06, 0x07, 0x08, 0x10, 0x11, 0x12, 0x13, 0x14,
   0x20, 0x21, 0x30, 0x31, 0x32, 0x33, 0x34, 0x35, 0x40, 0x41, 0x42, 0x50]

/-- Whether a code names a request of the part (R180). -/
def namesRequest (code : Byte) : Bool := requestCodes.contains code

/-- 00000000h and FFFFFFFFh are never valid sensor IDs (R12, R35). -/
def validId (id : SensorId) : Bool := id != 0x00000000#32 && id != 0xFFFFFFFF#32

/-- An UNKNOWN_REQUEST carries a code that names no request (R166), and a window belongs to an entry,
whose sensor ID is valid (R17). Every other term is a command. -/
def Instr.wellFormed : Instr → Bool
  | .unknownRequest code _ => !namesRequest code
  | .windowExpiry id _ => validId id
  | _ => true

end Sys2Proof
end

