-- ==== Sys2Proof/Machine/Store.lean ====
section
/-! DEFINITION. The Settings Store: section images and their check, loading at the end of STARTING,
and saving (chapter 10). The order of the fields inside an image is the model's own (log 7). -/

namespace Sys2Proof.Machine

/-! ### CRCs -/

/-- One bit of a CRC-8 with polynomial 07h, most significant bit first (R11). -/
def crc8Bit (c : BitVec 8) : BitVec 8 := if c.msb then (c <<< 1) ^^^ 0x07#8 else c <<< 1

/-- The CRC-8 of R11: polynomial 07h, initial value 00h, no reflection, no final inversion. -/
def crc8 (bytes : List Byte) : Byte :=
  bytes.foldl (fun c b =>
    crc8Bit (crc8Bit (crc8Bit (crc8Bit (crc8Bit (crc8Bit (crc8Bit (crc8Bit (c ^^^ b))))))))) 0

/-- One bit of a CRC-16 with polynomial 1021h, most significant bit first (R158). -/
def crc16Bit (c : BitVec 16) : BitVec 16 := if c.msb then (c <<< 1) ^^^ 0x1021#16 else c <<< 1

/-- The CRC-16 of R158: polynomial 1021h, initial value FFFFh, no reflection, no final inversion. -/
def crc16 (bytes : List Byte) : Word16 :=
  bytes.foldl (fun c b =>
    crc16Bit (crc16Bit (crc16Bit (crc16Bit (crc16Bit (crc16Bit (crc16Bit (crc16Bit
      (c ^^^ (b ++ 0#8)))))))))) 0xFFFF

/-! ### Images (log 7) -/

/-- What a section T or L holds: four axle records and sixteen sensor IDs or none (R158). -/
structure TableImage where
  axles : List Axle
  ids : List (Option SensorId)
deriving DecidableEq, Repr

/-- What section P holds (R158). -/
structure SettingsImage where
  profiles : List Profile
  settings : Settings
  revision : Word16
deriving DecidableEq, Repr

/-- An axle record in an image: kind, Tu, Tl. -/
def axleImage (x : Axle) : List Byte := [byteOf x.kind.code] ++ be16 x.unladen ++ be16 x.laden

/-- A sensor ID in an image: 01h and the ID, or 00h and zeros for none. -/
def idImage : Option SensorId → List Byte
  | some i => 1 :: be32 i
  | none => [0, 0, 0, 0, 0]

/-- The image of a section T or L. -/
def tableImage (x : TableImage) : List Byte := x.axles.flatMap axleImage ++ x.ids.flatMap idImage

/-- A profile record in an image, its ten fields in the order of R93. -/
def profileImage (x : Profile) : List Byte :=
  be16 x.enable.toNat ++ be16 x.uw ++ be16 x.uc ++ be16 x.ow ++
    [byteOf x.hyst, byteOf x.tw.toNat, byteOf x.tc.toNat, byteOf x.th] ++ be16 x.ib ++ [byteOf x.lk]

/-- The settings of section P in an image. -/
def settingsImage (x : Settings) : List Byte :=
  [ twosComplement x.tref, byteOf (tippingCode x.tipping), byteOf x.lampPorts.code,
    byteOf x.flashPeriod, byteOf x.flashWidth, byteOf x.reportPeriod.a, byteOf x.reportPeriod.b,
    byteOf x.order.a.code, byteOf x.order.b.code, byteOf (portCode x.loadSource),
    byteOf (portCode x.truckSource), byteOf (portCode x.trailerSource) ]

/-- The image of section P. -/
def settingsSectionImage (x : SettingsImage) : List Byte :=
  x.profiles.flatMap profileImage ++ settingsImage x.settings ++ be16 x.revision.toNat

/-- The number in two bytes. -/
def num16 (hi lo : Byte) : Nat := hi.toNat * 256 + lo.toNat

/-- A number that lies within its range. -/
def inRange (lo hi n : Nat) : Option Nat := if lo ≤ n ∧ n ≤ hi then some n else none

/-- An axle record read from an image; `none` where a field is out of its range (R159). -/
def readAxleImage : List Byte → Option (Axle × List Byte)
  | k :: u1 :: u0 :: l1 :: l0 :: rest =>
    match AxleKind.ofCode k.toNat, inRange 100 1200 (num16 u1 u0), inRange 100 1200 (num16 l1 l0) with
    | some kind, some tu, some tl => some ({ kind := kind, unladen := tu, laden := tl }, rest)
    | _, _, _ => none
  | _ => none

/-- A sensor ID read from an image; 00000000h and FFFFFFFFh fail (R159). -/
def readIdImage : List Byte → Option (Option SensorId × List Byte)
  | m :: b3 :: b2 :: b1 :: b0 :: rest =>
    let id : SensorId := b3 ++ b2 ++ b1 ++ b0
    if m = 0 then some (none, rest)
    else if m = 1 ∧ validId id = true then some (some id, rest)
    else none
  | _ => none

/-- A profile record read from an image; `none` where a field is out of its range of R93 (R159). -/
def readProfileImage : List Byte → Option (Profile × List Byte)
  | e1 :: e0 :: w1 :: w0 :: c1 :: c0 :: o1 :: o0 :: hy :: tw :: tc :: th :: i1 :: i0 :: lk :: rest =>
    let x : Profile :=
      { enable := BitVec.ofNat 10 (num16 e1 e0), uw := num16 w1 w0, uc := num16 c1 c0,
        ow := num16 o1 o0, hyst := hy.toNat, tw := tw.toNat, tc := tc.toNat, th := th.toNat,
        ib := num16 i1 i0, lk := lk.toNat }
    if num16 e1 e0 < 1024 ∧ 500 ≤ x.uw ∧ x.uw ≤ 990 ∧ 400 ≤ x.uc ∧ x.uc ≤ 980 ∧ 1010 ≤ x.ow ∧
        x.ow ≤ 1500 ∧ x.hyst ≤ 50 ∧ 40 ≤ tw.toNat ∧ tw.toNat ≤ 150 ∧ 45 ≤ tc.toNat ∧ tc.toNat ≤ 160 ∧
        1 ≤ x.th ∧ x.th ≤ 20 ∧ 20 ≤ x.ib ∧ x.ib ≤ 300 ∧ 5 ≤ x.lk ∧ x.lk ≤ 200 then
      some (x, rest)
    else none
  | _ => none

/-- The settings read from an image; `none` where a field is out of its range or a code names no
value (R159). -/
def readSettingsImage : List Byte → Option (Settings × List Byte)
  | tr :: ti :: la :: fp :: fw :: pa :: pb :: oa :: ob :: s1 :: s2 :: s3 :: rest =>
    match tippingOfCode ti.toNat, LampPorts.ofCode la.toNat, VisitOrder.ofCode oa.toNat,
      VisitOrder.ofCode ob.toNat, portOfCode s1.toNat, portOfCode s2.toNat, portOfCode s3.toNat with
    | some tipping, some lamp, some orderA, some orderB, some load, some truck, some trailer =>
      if -10 ≤ tr.toInt ∧ tr.toInt ≤ 40 ∧ 2 ≤ fp.toNat ∧ fp.toNat ≤ 50 ∧ 1 ≤ fw.toNat ∧
          fw.toNat ≤ 50 ∧ 1 ≤ pa.toNat ∧ pa.toNat ≤ 50 ∧ 1 ≤ pb.toNat ∧ pb.toNat ≤ 50 then
        some
          ({ tref := tr.toInt, tipping := tipping, lampPorts := lamp, flashPeriod := fp.toNat,
             flashWidth := fw.toNat, reportPeriod := { a := pa.toNat, b := pb.toNat },
             order := { a := orderA, b := orderB }, loadSource := load, truckSource := truck,
             trailerSource := trailer }, rest)
      else none
    | _, _, _, _, _, _, _ => none
  | _ => none

/-- `n` items read one after another. -/
def readMany {α : Type} (read : List Byte → Option (α × List Byte)) : Nat → List Byte →
    Option (List α × List Byte)
  | 0, bytes => some ([], bytes)
  | n + 1, bytes =>
    match read bytes with
    | none => none
    | some (x, rest) =>
      match readMany read n rest with
      | none => none
      | some (xs, rest') => some (x :: xs, rest')

/-- The fields of a section T or L image (R159). -/
def readTableImage (bytes : List Byte) : Option TableImage :=
  match readMany readAxleImage 4 bytes with
  | none => none
  | some (axles, rest) =>
    match readMany readIdImage 16 rest with
    | some (ids, []) => some { axles := axles, ids := ids }
    | _ => none

/-- The fields of a section P image (R159). -/
def readSettingsSection (bytes : List Byte) : Option SettingsImage :=
  match readMany readProfileImage 6 bytes with
  | none => none
  | some (profiles, rest) =>
    match readSettingsImage rest with
    | some (settings, [r1, r0]) =>
      some { profiles := profiles, settings := settings, revision := r1 ++ r0 }
    | _ => none

/-- The section as written: the image, its CRC-16, and the marker last (R158). -/
def sealed (image : List Byte) : StoreSection :=
  { image := image, crc := crc16 image, marker := Config.markerByte }

/-- A section passes its check: marker A5h, good CRC, every field in range (R159). -/
def checkSection {α : Type} (read : List Byte → Option α) (x : StoreSection) : Option α :=
  if x.marker = Config.markerByte ∧ crc16 x.image = x.crc then read x.image else none

/-! ### What is saved and what is loaded -/

/-- The values of section T or L as the wheel table holds them (R158). -/
def State.tableValues (s : State) (truck : Bool) : TableImage :=
  { axles := ((List.finRange 8).filter fun a => truckAxle a == truck).map s.axle
    ids := (allPositions.filter fun p => inTruck p == truck).map fun p => (s.pos p).sensor }

/-- The values of section P as the part holds them (R158). -/
def State.settingsValues (s : State) : SettingsImage :=
  { profiles := (List.finRange 6).map s.profile
    settings := s.settings
    revision := s.grant.revision }

/-- The section that a save writes from the values now held (R158, R162). -/
def State.sectionImage (s : State) (n : SectionName) : StoreSection :=
  match n with
  | .t => sealed (tableImage (s.tableValues true))
  | .l => sealed (tableImage (s.tableValues false))
  | .p => sealed (settingsSectionImage s.settingsValues)

/-- The factory defaults of a section T or L (R158). -/
def TableImage.factory : TableImage :=
  { axles := List.replicate 4 Axle.factory, ids := List.replicate 16 none }

/-- The factory defaults of section P (R158). -/
def SettingsImage.factory : SettingsImage :=
  { profiles := factoryProfiles.toList, settings := Settings.factory, revision := 0 }

/-- The sensor IDs taken at start-up: position by position, leaving out an invalid ID, one at a
position that does not exist, and one already taken (R35). `ids` starts at position `n`. -/
def takeIds (there : Nat → Bool) : Nat → List SensorId → List (Option SensorId) → List (Option SensorId)
  | _, _, [] => []
  | n, taken, none :: rest => none :: takeIds there (n + 1) taken rest
  | n, taken, some id :: rest =>
    if validId id && there n && !taken.contains id then
      some id :: takeIds there (n + 1) (id :: taken) rest
    else none :: takeIds there (n + 1) taken rest

/-- A position as loaded at the end of STARTING (R57, R84). -/
def loadedPosition (p : Pos) (id : Option SensorId) (trailerPresent : Bool) (now : Tick) : Position :=
  let st := stateAfterReset p id trailerPresent
  { Position.empty with
    sensor := id
    state := st
    deadline := if st = .waiting then some (after now Config.waitingTicks) else none }

/-- The three sections judged and loaded into their blocks, each section that fails its check giving
its factory defaults with DEFAULTED set; positions from the IDs taken (R57, R159, R160, R163). -/
def State.loadStore (s : State) : State :=
  let t := checkSection readTableImage s.store.t
  let l := checkSection readTableImage s.store.l
  let p := checkSection readSettingsSection s.store.p
  let tv := t.getD TableImage.factory
  let lv := l.getD TableImage.factory
  let pv := p.getD SettingsImage.factory
  let axles := Vector.ofFn fun (a : AxleNo) => (tv.axles ++ lv.axles)[a.val]?.getD Axle.factory
  let there := fun n => match posOfCode n with
    | some q => slotExists (axles[(axleOf q).val]).kind (slotOf q)
    | none => false
  let ids := takeIds there 0 [] (tv.ids ++ lv.ids)
  { s with
    axles := axles
    positions := Vector.ofFn fun (q : Pos) => loadedPosition q (ids[q.val]?.getD none) s.trailerPresent s.tick
    profiles := Vector.ofFn fun (i : ProfileNo) => pv.profiles[i.val]?.getD Profile.default
    settings := pv.settings
    grant := { s.grant with revision := pv.revision }
    flags :=
      { t := { s.flags.t with defaulted := t.isNone }
        l := { s.flags.l with defaulted := l.isNone }
        p := { s.flags.p with defaulted := p.isNone } } }

/-- What the store holds of the section whose turn it was at a device reset: the old image where its erase
had not begun, else as the cut left it (R164, log 11). -/
def cutSection (n : SectionName) (old written : StoreSection) : SaveCut → StoreSection
  | .notReached => old
  | .unmarked => erasedSection n
  | .marked true => written
  | .marked false => { written with crc := ~~~ written.crc }

/-- The store after a device reset: only the section being written may have changed (R164). -/
def State.storeAfterCut (s : State) (cut : SaveCut) : PerSection StoreSection :=
  if s.phase = .running ∧ s.grant.state = .saving then
    match s.grant.toSave with
    | [] => s.store
    | n :: _ => s.store.set n (cutSection n (s.store.get n) (s.sectionImage n) cut)
  else s.store

/-- The section being saved has been dealt with: written, or erased with WRITE-FAILED set after a
second failed verify; when it was the last, the handover (R152, R162, R163). -/
def State.finishSection (s : State) (n : SectionName) (rest : List SectionName) (r : SaveResult) : State :=
  let s1 := match r with
    | .failedTwice =>
      { s with
        store := s.store.set n (erasedSection n)
        flags := s.flags.set n { s.flags.get n with writeFailed := true } }
    | _ =>
      { s with
        store := s.store.set n (s.sectionImage n)
        flags := s.flags.set n { defaulted := false, writeFailed := false } }
  let s2 := { s1 with grant := { s1.grant with toSave := rest } }
  if rest.isEmpty then s2.handover else s2

end Sys2Proof.Machine
end

