-- ==== Sys2Proof/Machine/Edits.lean ====
section
/-! DEFINITION. The requests that need the edit grant: WRITE_POSITION, WRITE_AXLE, WRITE_PROFILE,
WRITE_SETTINGS, CLEAR_SECTION, LOCK_TRUCK, TEACH_START, TEACH_APPEND, TEACH_ABORT (chapters 8, 9). -/

namespace Sys2Proof.Machine

/-! ### WRITE POSITION (R153) -/

/-- The position and the ID, or `none` to remove it; the outer `none` is refused INVALID (R153, R183). -/
def positionWriteOperand (r : Request) : Option (Pos × Option SensorId) :=
  match positionOperand r, byteAt r 1 with
  | some p, some 0 => (idAt r 2).map fun id => (p, some id)
  | some p, some 1 => some (p, none)
  | _, _ => none

/-- Whether a written ID is refused: no valid ID, a position that does not exist, or an ID held by
another position (R153). -/
def State.idRefused (s : State) (p : Pos) : Option SensorId → Bool
  | none => false
  | some id => !validId id || !s.posExists p || (allPositions.any fun q => q != p && (s.pos q).sensor == some id)

/-- WRITE_POSITION (R37, R153). -/
def execWritePosition (r : Request) (s : State) : Host.Outcome State Fault Refusal :=
  .next (s.edit r codeWritePosition (positionWriteOperand r) fun w s =>
    let changes := (s.pos w.1).sensor != w.2
    if s.idRefused w.1 w.2 then s.refuse r codeWritePosition .invalid
    else if changes && inTruck w.1 && s.grant.truckLock then s.refuse r codeWritePosition .locked
    else if changes then
      (((s.recordReset w.1 w.2).mark (sectionOf (inTruck w.1))).refreshIdle.recomputeWarn).reply r
        codeWritePosition .done
    else s.refreshIdle.reply r codeWritePosition .done)

/-! ### WRITE AXLE and CLEAR SECTION (R154, R155) -/

/-- What a WRITE AXLE carries. -/
structure AxleWrite where
  axle : AxleNo
  kind : Option Nat
  unladen : Option Nat
  laden : Option Nat
deriving DecidableEq, Repr

/-- A WRITE AXLE read from its frame; `none` where it is refused INVALID (R154, R183). -/
def axleWriteOperand (r : Request) : Option AxleWrite :=
  match (byteAt r 0).bind axleOfCode, byteAt r 1 with
  | some a, some m =>
    some { axle := a, kind := selected m 0 (byteAt r 2), unladen := selected m 1 (wordAt r 3),
           laden := selected m 2 (wordAt r 5) }
  | _, _ => none

/-- A target clamped to 100–1200 (R31). -/
def clampTarget (n : Nat) : Nat := clampNat 100 1200 n

/-- Positions record-reset to UNASSIGNED, those that hold an ID or are in any other state (R32). -/
def State.resetAll (s : State) (ps : List Pos) : State :=
  ps.foldl (fun s p =>
    if (s.pos p).sensor.isSome || (s.pos p).state != .unassigned then s.recordReset p none else s) s

/-- The lifted bit of an axle cleared (R62). -/
def State.lowerAxle (s : State) (a : AxleNo) : State :=
  { s with context :=
      if truckAxle a then { s.context with truckLifted := s.context.truckLifted &&& ~~~ (1#4 <<< a.val) }
      else { s.context with trailerLifted := s.context.trailerLifted &&& ~~~ (1#4 <<< (a.val - 4)) } }

/-- Whether a position of axle `a` stops existing when the axle takes kind `k` (R32). -/
def State.stopsExisting (s : State) (a : AxleNo) (k : AxleKind) (p : Pos) : Bool :=
  axleOf p == a && s.posExists p && !slotExists k (slotOf p)

/-- An axle takes a new kind: the positions that stop existing are reset and leave the walk, and an
ABSENT axle is not lifted (R32, R62, R141, R154). -/
def State.changeKind (s : State) (a : AxleNo) (k : AxleKind) : State :=
  let gone := s.stopsExisting a k
  let s1 := ((s.setAxle a { s.axle a with kind := k }).resetAll (allPositions.filter gone)).removeFromTeach
    gone true .complete
  if k = .absent then s1.lowerAxle a else s1

/-- An axle record with its selected targets stored clamped (R31). -/
def AxleWrite.targets (w : AxleWrite) (x : Axle) : Axle :=
  { x with
    unladen := (w.unladen.map clampTarget).getD x.unladen
    laden := (w.laden.map clampTarget).getD x.laden }

/-- Whether a target of the write is clamped. -/
def AxleWrite.clamps (w : AxleWrite) : Bool :=
  w.unladen.any (fun n => clampTarget n != n) || w.laden.any (fun n => clampTarget n != n)

/-- An accepted WRITE AXLE: kind, targets, re-evaluation, in this order (R154, R75, R150). -/
def State.applyAxle (s : State) (w : AxleWrite) (k : AxleKind) : State :=
  let old := s.axle w.axle
  let s1 := if k = old.kind then s else s.changeKind w.axle k
  let x := w.targets (s1.axle w.axle)
  let s2 := s1.setAxle w.axle x
  let s3 := if x = old then s2 else s2.mark (sectionOf (truckAxle w.axle))
  let s4 := if x.unladen = old.unladen ∧ x.laden = old.laden then s3 else s3.reevaluate
  s4.refreshIdle.recomputeWarn

/-- WRITE_AXLE (R154). -/
def execWriteAxle (r : Request) (s : State) : Host.Outcome State Fault Refusal :=
  .next (s.edit r codeWriteAxle (axleWriteOperand r) fun w s =>
    let old := s.axle w.axle
    match (match w.kind with
      | none => some old.kind
      | some code => AxleKind.ofCode code) with
    | none => s.refuse r codeWriteAxle .invalid
    | some k =>
      if w.kind.isNone && w.unladen.isNone && w.laden.isNone then s.refreshIdle.reply r codeWriteAxle .done
      else if k != old.kind && truckAxle w.axle && s.grant.truckLock then s.refuse r codeWriteAxle .locked
      else (s.applyAxle w k).reply r codeWriteAxle (if w.clamps then .clamped else .done))

/-- Every axle of a section ABSENT, its positions reset, its mask emptied, its positions out of the
walk; a change where an axle was not ABSENT (R155). -/
def State.clearVehicleSection (s : State) (truck : Bool) : State :=
  let gone := fun p => inTruck p == truck && s.posExists p
  let changed := (List.finRange 8).any fun a => truckAxle a == truck && (s.axle a).kind != .absent
  let s1 : State :=
    { s with
      axles := Vector.ofFn fun (a : AxleNo) =>
        if truckAxle a == truck then { s.axle a with kind := .absent } else s.axle a
      context := if truck then { s.context with truckLifted := 0 } else { s.context with trailerLifted := 0 } }
  let s2 := (s1.resetAll (allPositions.filter fun p => inTruck p == truck)).removeFromTeach gone true .complete
  if changed then s2.mark (sectionOf truck) else s2

/-- CLEAR_SECTION (R155). -/
def execClearSection (r : Request) (s : State) : Host.Outcome State Fault Refusal :=
  .next (s.edit r codeClearSection
    ((byteAt r 0).bind fun n => if n = 0 then some true else if n = 1 then some false else none)
    fun truck s =>
      if truck && s.grant.truckLock then s.refuse r codeClearSection .locked
      else (s.clearVehicleSection truck).refreshIdle.recomputeWarn.reply r codeClearSection .done)

/-! ### WRITE PROFILE (R95, R96) -/

/-- The record that a write gives, and whether a clamp or an adjustment changed a value (R95). -/
def ProfileWrite.result (w : ProfileWrite) (old : Profile) : Profile × Bool :=
  let written := w.apply old
  let clamped := written.clampFields
  let final := clamped.crossAdjust
  (final, clamped != written || final != clamped)

/-- An accepted WRITE PROFILE: the record stored, a change marked, one re-evaluation where the index
is the top entry's (R96, R150). -/
def State.applyProfile (s : State) (i : ProfileNo) (x : Profile) : State :=
  let s1 := s.setProfile i x
  let s2 := if x = s.profile i then s1
    else if i = s.activeIndex then (s1.mark .p).reevaluate
    else s1.mark .p
  s2.refreshIdle.recomputeWarn

/-- WRITE_PROFILE (R96). -/
def execWriteProfile (r : Request) (s : State) : Host.Outcome State Fault Refusal :=
  .next (s.edit r codeWriteProfile (profileWriteOperand r) fun w s =>
    if w.anySelected then
      let x := w.result (s.profile w.index)
      (s.applyProfile w.index x.1).reply r codeWriteProfile (if x.2 then .clamped else .done)
    else s.refreshIdle.reply r codeWriteProfile .done)

/-! ### WRITE SETTINGS (R156, R186) -/

/-- What a WRITE SETTINGS selects, as carried. -/
structure SettingsWrite where
  tref : Option Int
  tipping : Option Nat
  lampPorts : Option Nat
  flashPeriod : Option Nat
  flashWidth : Option Nat
  loadSource : Option Nat
  truckSource : Option Nat
  trailerSource : Option Nat
  periodA : Option Nat
  periodB : Option Nat
  orderA : Option Nat
  orderB : Option Nat
deriving DecidableEq, Repr

/-- No field selected. -/
def SettingsWrite.blank : SettingsWrite :=
  { tref := none, tipping := none, lampPorts := none, flashPeriod := none, flashWidth := none,
    loadSource := none, truckSource := none, trailerSource := none, periodA := none, periodB := none,
    orderA := none, orderB := none }

/-- A WRITE SETTINGS read from its frame: bit 7 of byte 0 the group, values from byte 1 (R183, R186). -/
def settingsWriteOperand (r : Request) : Option SettingsWrite :=
  (byteAt r 0).map fun b =>
    if b < 128 then
      { SettingsWrite.blank with
        tref := selected b 0 (signedAt r 1)
        tipping := selected b 1 (byteAt r 2)
        lampPorts := selected b 2 (byteAt r 3)
        flashPeriod := selected b 3 (byteAt r 4)
        flashWidth := selected b 4 (byteAt r 5)
        loadSource := selected b 5 (byteAt r 6)
        truckSource := selected b 6 (byteAt r 7) }
    else
      { SettingsWrite.blank with
        trailerSource := selected b 0 (byteAt r 1)
        periodA := selected b 1 (byteAt r 2)
        periodB := selected b 2 (byteAt r 3)
        orderA := selected b 3 (byteAt r 4)
        orderB := selected b 4 (byteAt r 5) }

/-- A coded setting after the write; `none` where the code names no value. -/
def codedField {α : Type} (read : Nat → Option α) (code : Option Nat) (old : α) : Option α :=
  match code with
  | none => some old
  | some n => read n

/-- A ranged setting after the write, stored clamped. -/
def rangedField (lo hi : Nat) (value : Option Nat) (old : Nat) : Nat := (value.map (clampNat lo hi)).getD old

/-- The settings after the write; `none` where a code is invalid, and then nothing is written (R156). -/
def SettingsWrite.apply (w : SettingsWrite) (x : Settings) : Option Settings :=
  match codedField tippingOfCode w.tipping x.tipping, codedField LampPorts.ofCode w.lampPorts x.lampPorts,
    codedField portOfCode w.loadSource x.loadSource, codedField portOfCode w.truckSource x.truckSource,
    codedField portOfCode w.trailerSource x.trailerSource, codedField VisitOrder.ofCode w.orderA x.order.a,
    codedField VisitOrder.ofCode w.orderB x.order.b with
  | some tipping, some lamp, some load, some truck, some trailer, some orderA, some orderB =>
    some
      { tref := (w.tref.map (clampInt (-10) 40)).getD x.tref
        tipping := tipping
        lampPorts := lamp
        flashPeriod := rangedField 2 50 w.flashPeriod x.flashPeriod
        flashWidth := rangedField 1 50 w.flashWidth x.flashWidth
        reportPeriod :=
          { a := rangedField 1 50 w.periodA x.reportPeriod.a
            b := rangedField 1 50 w.periodB x.reportPeriod.b }
        order := { a := orderA, b := orderB }
        loadSource := load
        truckSource := truck
        trailerSource := trailer }
  | _, _, _, _, _, _, _ => none

/-- Whether a value of the write is clamped (R156). -/
def SettingsWrite.clamps (w : SettingsWrite) : Bool :=
  w.tref.any (fun t => clampInt (-10) 40 t != t) || w.flashPeriod.any (fun n => clampNat 2 50 n != n) ||
    w.flashWidth.any (fun n => clampNat 1 50 n != n) || w.periodA.any (fun n => clampNat 1 50 n != n) ||
    w.periodB.any (fun n => clampNat 1 50 n != n)

/-- A port's running period timer restarted where its report period has changed (R175). -/
def PortCtl.restartPeriod (c : PortCtl) (changed : Bool) (now : Tick) (period : Nat) : PortCtl :=
  if changed then { c with periodDue := c.periodDue.map fun _ => after now period } else c

/-- The flash pattern restarted, with the line high, while the level is FLASH (R126). -/
def State.restartFlash (s : State) : State :=
  if s.warn.level = .flash then { s with warn := { s.warn with phaseStart := s.tick, high := true } } else s

/-- An accepted WRITE SETTINGS: the settings stored, each change with the effect its own rule gives
(R63, R126, R128, R156, R175). -/
def State.applySettings (s : State) (x : Settings) : State :=
  let old := s.settings
  let s1 := { s with
    settings := x
    ports :=
      { a := s.ports.a.restartPeriod (x.reportPeriod.a != old.reportPeriod.a) s.tick x.reportPeriod.a
        b := s.ports.b.restartPeriod (x.reportPeriod.b != old.reportPeriod.b) s.tick x.reportPeriod.b } }
  let s2 := if x = old then s1 else s1.mark .p
  let s3 := (if x.tref = old.tref then s2 else s2.reevaluate).refreshIdle.recomputeWarn
  if x.flashPeriod = old.flashPeriod ∧ x.flashWidth = old.flashWidth then s3 else s3.restartFlash

/-- WRITE_SETTINGS (R156). -/
def execWriteSettings (r : Request) (s : State) : Host.Outcome State Fault Refusal :=
  .next (s.edit r codeWriteSettings (settingsWriteOperand r) fun w s =>
    match w.apply s.settings with
    | none => s.refuse r codeWriteSettings .invalid
    | some x => (s.applySettings x).reply r codeWriteSettings (if w.clamps then .clamped else .done))

/-! ### LOCK TRUCK and the teach requests (R157, R131 to R133) -/

/-- LOCK_TRUCK (R157). -/
def execLockTruck (r : Request) (s : State) : Host.Outcome State Fault Refusal :=
  .next (s.edit r codeLockTruck (some ()) fun _ s =>
    ({ s with grant := { s.grant with truckLock := true } }).refreshIdle.reply r codeLockTruck .done)

/-- The position numbers that a TEACH START or TEACH APPEND carries, at most `most`; `none` where the
frame is too short for its list count or the count is above that (R131, R132, R183). -/
def listOperand (most : Nat) (r : Request) : Option (List Nat) :=
  (byteAt r 0).bind fun n =>
    if n > most then none else (List.range n).mapM fun i => byteAt r (i + 1)

/-- The position list judged: the positions, or the refusal (R130). -/
def State.teachList (s : State) (queue taught : List Pos) (codes : List Nat) : Except Reply (List Pos) :=
  match codes.mapM posOfCode with
  | none => .error .invalid
  | some ps =>
    match s.judgeList queue taught ps with
    | some refusal => .error refusal
    | none => .ok ps

/-- The DONE answer of TEACH START and TEACH APPEND: head and queue length (R184). -/
def teachAnswer (queue : List Pos) : List Byte :=
  [Reply.done.code, optPos queue.head?, byteOf queue.length]

/-- TEACH_START: a session with the listed positions as queue; the idle timer stops (R131, R147). -/
def execTeachStart (r : Request) (s : State) : Host.Outcome State Fault Refusal :=
  .next (s.edit r codeTeachStart (listOperand 6 r) fun codes s =>
    if s.teach.isSome then s.refuse r codeTeachStart .busy
    else match s.teachList [] [] codes with
      | .error refusal => s.refuse r codeTeachStart refusal
      | .ok ps =>
        State.answer
          { s with
            teach := some
              { owner := r.port, queue := ps, taught := [],
                stepDeadline := after s.tick Config.teachStepTicks, count := 0 }
            grant := { s.grant with idleTimer := none } }
          r codeTeachStart [teachAnswer ps])

/-- TEACH_APPEND: the listed positions join the end of the queue (R132). -/
def execTeachAppend (r : Request) (s : State) : Host.Outcome State Fault Refusal :=
  .next (s.edit r codeTeachAppend (listOperand 7 r) fun codes s =>
    match s.teach with
    | none => s.refuse r codeTeachAppend .notFound
    | some t =>
      match s.teachList t.queue t.taught codes with
      | .error refusal => s.refuse r codeTeachAppend refusal
      | .ok ps =>
        let queue := t.queue ++ ps
        State.answer { s with teach := some { t with queue := queue } } r codeTeachAppend [teachAnswer queue])

/-- TEACH_ABORT: the session ends ABORTED, the answer after its TEACH END (R133). -/
def execTeachAbort (r : Request) (s : State) : Host.Outcome State Fault Refusal :=
  .next (s.edit r codeTeachAbort (some ()) fun _ s =>
    match s.teach with
    | none => s.refuse r codeTeachAbort .notFound
    | some _ => (s.endTeach .aborted).reply r codeTeachAbort .done)

end Sys2Proof.Machine
end

