-- ==== Sys2Proof/Machine/Receive.lean ====
section
/-! DEFINITION. The receiver lines and the Merge Buffer, with their commands RECEIVED_BYTE,
GAP_EXPIRY and WINDOW_EXPIRY (chapters 1 and 2). -/

namespace Sys2Proof.Machine

/-! ### Lines -/

/-- Receiver line `i`. -/
def State.line (s : State) (i : Fin 4) : Line := s.lines[i.val]

/-- Receiver line `i` replaced. -/
def State.setLine (s : State) (i : Fin 4) (x : Line) : State :=
  { s with lines := s.lines.set i.val x i.isLt }

/-- An error count one higher, staying at 65,535 (R15). -/
def countUp (n : Word16) : Word16 := if n = 0xFFFF then n else n + 1

/-- The line back in HUNT, store empty and timer stopped (R6, R7, R8). -/
def Line.toHunt (x : Line) : Line := { x with assembly := .hunt, store := [], gapTimer := none }

/-- The gap timer started, or restarted, from a byte of the present tick: its next run begins (R5 to R8). -/
def Line.startGap (x : Line) (now : Tick) : Line := { x with gapTimer := some now, gapRuns := x.gapRuns + 1 }

/-- A frame abandoned with a FRAMING error (R6, R8). -/
def Line.abandon (x : Line) : Line := { x.toHunt with framing := countUp x.framing }

/-! ### Validation and decoding (R9 to R13, R179) -/

/-- The line check: LEN and the twelve bytes after it sum to 00h (R10). -/
def lineCheck (bytes : List Byte) : Bool := bytes.foldl (· + ·) Config.lenByte == 0

/-- The telegram check: the CRC-8 of telegram bytes 0–8 equals byte 9 (R11). -/
def telegramCheck (bytes : List Byte) : Bool := crc8 (bytes.take 9) == bytes.getD 9 0

/-- The sensor ID of a telegram, bytes 0–3 (R179). -/
def telegramId (bytes : List Byte) : SensorId :=
  bytes.getD 0 0 ++ bytes.getD 1 0 ++ bytes.getD 2 0 ++ bytes.getD 3 0

/-- The kind named by bits 7–6 of telegram byte 4; code 3 names none (R12, R179). -/
def telegramKind (bytes : List Byte) : Option TeleKind :=
  match ((bytes.getD 4 0).extractLsb' 6 2).toNat with
  | 0 => some .periodic
  | 1 => some .alert
  | 2 => some .trigger
  | _ => none

/-- The absolute pressure of a 16-bit pressure field (R13). -/
def decodePressure (field : Nat) : Option Nat :=
  if field ≥ 1023 then none else some (2 * field)

/-- The temperature of a temperature byte (R13). -/
def decodeTemperature (raw : Nat) : Option Int := if raw = 255 then none else some ((raw : Int) - 50)

/-- The copy that a valid frame on a line is decoded into (R13). -/
def decodeCopy (line : Fin 4) (kind : TeleKind) (bytes : List Byte) : Copy :=
  let control := bytes.getD 4 0
  let status := bytes.getD 5 0
  { id := telegramId bytes
    seq := control.extractLsb' 0 4
    frameIndex := control.extractLsb' 4 2
    content :=
      { kind := kind
        motion := status.getLsbD 0
        batteryLow := status.getLsbD 1
        sensorFault := status.getLsbD 2
        pressure := decodePressure ((bytes.getD 6 0).toNat * 256 + (bytes.getD 7 0).toNat)
        temperature := decodeTemperature (bytes.getD 8 0).toNat }
    rssi := bytes.getD 10 0
    line := line }

/-- What the validation of a complete frame finds (R9). -/
inductive Verdict where
  | badCheck
  | badCrc
  | badIdent
  | valid (c : Copy)
deriving DecidableEq, Repr

/-- The three checks in their order; the first that fails decides (R9 to R12). -/
def validate (line : Fin 4) (bytes : List Byte) : Verdict :=
  if !lineCheck bytes then .badCheck
  else if !telegramCheck bytes then .badCrc
  else match telegramKind bytes with
    | none => .badIdent
    | some kind => if validId (telegramId bytes) then .valid (decodeCopy line kind bytes) else .badIdent

/-! ### The Merge Buffer (R17 to R28) -/

/-- The line mask of one line. -/
def lineMaskOf (line : Fin 4) : LineMask := 1#4 <<< line.val

/-- The frame-index set of one index. -/
def frameSetOf (i : BitVec 2) : FrameSet := 1#4 <<< i.toNat

/-- The entry that a copy opens (R22). -/
def openEntry (c : Copy) (now : Tick) : MergeEntry :=
  { id := c.id, seq := c.seq, content := c.content
    heard :=
      { bestRssi := c.rssi, bestLine := c.line, lineMask := lineMaskOf c.line,
        frameSet := frameSetOf c.frameIndex, copyCount := 1, conflict := false }
    openingTick := now }

/-- The entry that a copy joins: the record of how it was heard, the strongest copy's content, and
the conflict mark judged against the content as it stood before (R19, R20, R21). -/
def joinEntry (e : MergeEntry) (c : Copy) : MergeEntry :=
  let stronger := e.heard.bestRssi < c.rssi
  { e with
    content := if stronger then c.content else e.content
    heard :=
      { bestRssi := if stronger then c.rssi else e.heard.bestRssi
        bestLine := if stronger then c.line else e.heard.bestLine
        lineMask := e.heard.lineMask ||| lineMaskOf c.line
        frameSet := e.heard.frameSet ||| frameSetOf c.frameIndex
        copyCount := min Config.copyCountMax (e.heard.copyCount + 1)
        conflict := e.heard.conflict || c.content != e.content } }

/-- Whether an entry has a copy's key (R18). -/
def sameKey (c : Copy) (e : MergeEntry) : Bool := e.id == c.id && e.seq == c.seq

/-- The delivery of a closed entry (R26). -/
def MergeEntry.delivery (e : MergeEntry) : Delivery :=
  { id := e.id, seq := e.seq, content := e.content, heard := e.heard, tick := e.openingTick }

/-- An entry added at the newest end. -/
def State.openWindow (s : State) (e : MergeEntry) : State := { s with merge := s.merge ++ [e] }

/-- A copy taken by the TMU: it joins its key's entry, or opens one, the oldest entry closed and
delivered first where the buffer is full (R18, R22, R23). -/
def State.takeCopy (s : State) (c : Copy) : State :=
  if s.merge.any (sameKey c) then
    { s with merge := s.merge.map fun e => if sameKey c e then joinEntry e c else e }
  else if s.merge.length < Config.mergeCapacity then s.openWindow (openEntry c s.tick)
  else match s.merge with
    | [] => s.openWindow (openEntry c s.tick)
    | oldest :: rest =>
      (({ s with merge := rest }).deliver oldest.delivery).openWindow (openEntry c s.tick)

/-- The twelve bytes of a complete frame on a line validated, and its copy handed on, the line back in HUNT as
`x` (R9, R14). -/
def State.completeFrame (s : State) (i : Fin 4) (x : Line) (bytes : List Byte) : State :=
  match validate i bytes with
  | .badCheck => s.setLine i { x with check := countUp x.check }
  | .badCrc => s.setLine i { x with crc := countUp x.crc }
  | .badIdent => s.setLine i { x with ident := countUp x.ident }
  | .valid c => (s.setLine i x).takeCopy c

/-- A received byte offered to the assembly state machine of its line (R3, R5 to R7). -/
def State.takeByte (s : State) (i : Fin 4) (v : Byte) : State :=
  let x := s.line i
  match x.assembly with
  | .hunt =>
    if v = Config.syncByte then
      s.setLine i ({ x with assembly := .length, store := [] }.startGap s.tick)
    else s
  | .length =>
    if v = Config.lenByte then s.setLine i ({ x with assembly := .body, store := [] }.startGap s.tick)
    else if v = Config.syncByte then s.setLine i (x.startGap s.tick)
    else s.setLine i x.abandon
  | .body =>
    let store := x.store ++ [v]
    if store.length < Config.bodyBytes then s.setLine i ({ x with store := store }.startGap s.tick)
    else s.completeFrame i x.toHunt store

/-! ### Commands -/

/-- RECEIVED_BYTE: a character with a low stop bit, and every character while STARTING, is discarded
(R3, R4). -/
def execReceivedByte (i : Fin 4) (stopHigh : Bool) (v : Byte) (s : State) :
    Host.Outcome State Fault Refusal :=
  .next (if stopHigh && s.phase == .running then s.takeByte i v else s)

/-- GAP_EXPIRY: the frame is abandoned where this run of the line's gap timer goes on. A run that a byte taken
first has ended has no expiry (R8, log 33). -/
def execGapExpiry (run : GapRun) (s : State) : Host.Outcome State Fault Refusal :=
  let x := s.line run.line
  .next (if x.gapTimer.isSome ∧ run.number = x.gapRuns then s.setLine run.line x.abandon else s)

/-- WINDOW_EXPIRY: the entry with this key, the oldest, is closed, delivered and removed (R25); the
expiry of an entry that has gone is not taken (R23, log 5). -/
def execWindowExpiry (id : SensorId) (seq : BitVec 4) (s : State) : Host.Outcome State Fault Refusal :=
  .next
    (match s.merge with
    | [] => s
    | e :: rest =>
      if e.id = id ∧ e.seq = seq then ({ s with merge := rest }).deliver e.delivery else s)

end Sys2Proof.Machine
end

