-- ==== Sys2Proof/Machine/Reads.lean ====
section
/-! DEFINITION. The read requests and UNKNOWN_REQUEST: answers built by the layouts of R184. -/

namespace Sys2Proof.Machine

/-! ### READ POSITION (R168) -/

/-- Frame 2 of READ POSITION: sensor ID and how the last sample was heard (R168, R181, R184). -/
def sampleBytes (x : Position) : List Byte :=
  optId x.sensor ++
    match x.sample with
    | none => [byteOf (64 * 3), 0, 0, 0]
    | some sm =>
      [ byteOf (64 * sm.content.kind.code + bitOf sm.content.motion + 2 * bitOf sm.content.batteryLow +
          4 * bitOf sm.content.sensorFault),
        byteOf (sm.seq.toNat + 16 * bitOf sm.heard.conflict + 32 * sm.heard.bestLine.val),
        byteOf (16 * sm.heard.lineMask.toNat + (sm.heard.copyCount - 1)),
        sm.heard.bestRssi ]

/-- Frame 3 of READ POSITION: a port's capture record (R168, R181, R184). -/
def captureBytes : Option Capture → List Byte
  | none => [0xFF, 0xFF, 0xFF, 0xFF, 0xFF, 0xFF, 0xFF]
  | some c => [byteOf c.kind.bit] ++ be24 c.tick ++ optBe16 c.pc ++ [optTemp c.temperature]

/-- Frame 4 of READ POSITION: leak rate, last valid temperature, absolute pressure, age and
frame-index set (R168, R181, R184). -/
def figureBytes (x : Position) (now : Tick) : List Byte :=
  optBe16 x.leakRate ++ [optTemp x.lastTemp] ++ optBe16 (x.sample.bind (·.content.pressure)) ++
    optBe16 (x.sample.map fun sm => min 65534 (keptSpan sm.tick now / 10)) ++
    [match x.sample with
      | none => 0
      | some sm => sm.heard.frameSet.setWidth 8]

/-- READ_POSITION (R168). -/
def execReadPosition (r : Request) (s : State) : Host.Outcome State Fault Refusal :=
  .next (s.request r codeReadPosition (positionOperand r) fun p s =>
    let x := s.pos p
    s.answer r codeReadPosition
      [s.positionReport p r.port, sampleBytes x, captureBytes (x.capture.get r.port), figureBytes x s.tick])

/-! ### READ AXLE (R56) -/

/-- What a READ AXLE names. -/
structure AxleRead where
  axle : AxleNo
  start : Slot
  /-- `none` for PORT, the asking port's order -/
  order : Option VisitOrder
  count : Nat
deriving DecidableEq, Repr

/-- The order code of READ AXLE: LINEAR 0, TWIN 1, PORT 2 (R180). -/
def orderOperand : Nat → Option (Option VisitOrder)
  | 0 => some (some .linear)
  | 1 => some (some .twin)
  | 2 => some none
  | _ => none

/-- The four mandatory fields of READ AXLE; `none` where it is refused INVALID (R56, R183). -/
def axleReadOperand (r : Request) : Option AxleRead :=
  match (byteAt r 0).bind axleOfCode, (byteAt r 1).bind fourOfCode, (byteAt r 2).bind orderOperand,
    (byteAt r 3).bind (inRange 1 4) with
  | some a, some slot, some order, some n => some { axle := a, start := slot, order := order, count := n }
  | _, _, _, _ => none

/-- READ_AXLE: the axle frame, then one position frame for each existing slot visited (R55, R56). -/
def execReadAxle (r : Request) (s : State) : Host.Outcome State Fault Refusal :=
  .next (s.request r codeReadAxle (axleReadOperand r) fun q s =>
    let x := s.axle q.axle
    let ps := s.visited q.axle (q.order.getD (s.settings.order.get r.port)) q.start q.count
    s.answer r codeReadAxle
      (([Reply.done.code, byteOf q.axle.val, byteOf x.kind.code] ++ be16 x.unladen ++ be16 x.laden ++
          [byteOf (128 * bitOf (s.lifted q.axle) + ps.length)]) ::
        ps.map fun p => s.positionReport p r.port))

/-! ### READ PROFILE, READ SETTINGS, READ STACK (R97, R169, R110) -/

/-- READ_PROFILE: the ten fields over three frames (R97, R184). Temperatures are sent as °C + 50. -/
def execReadProfile (r : Request) (s : State) : Host.Outcome State Fault Refusal :=
  .next (s.request r codeReadProfile (profileOperand r) fun i s =>
    let x := s.profile i
    s.answer r codeReadProfile
      [ [Reply.done.code, byteOf i.val] ++ be16 x.enable.toNat ++ be16 x.uw ++ be16 x.uc,
        be16 x.ow ++ [byteOf x.hyst, optTemp (some x.tw), optTemp (some x.tc), byteOf x.th] ++ be16 x.ib,
        [byteOf x.lk] ])

/-- READ_SETTINGS: the settings of section P over two frames (R169, R184). -/
def execReadSettings (r : Request) (s : State) : Host.Outcome State Fault Refusal :=
  .next (s.request r codeReadSettings (some ()) fun _ s =>
    let x := s.settings
    s.answer r codeReadSettings
      [ [ Reply.done.code, twosComplement x.tref, byteOf (tippingCode x.tipping), byteOf x.lampPorts.code,
          byteOf x.flashPeriod, byteOf x.flashWidth,
          byteOf (portCode x.loadSource + 2 * portCode x.truckSource + 4 * portCode x.trailerSource) ],
        [ byteOf x.reportPeriod.a, byteOf x.order.a.code, byteOf x.reportPeriod.b, byteOf x.order.b.code ] ])

/-- READ_STACK: depth, entries bottom first, body state, tipping profile (R110, R184). -/
def execReadStack (r : Request) (s : State) : Host.Outcome State Fault Refusal :=
  .next (s.request r codeReadStack (some ()) fun _ s =>
    s.answer r codeReadStack
      [[ Reply.done.code, byteOf s.stack.length, optEntry s.stack[0]?, optEntry s.stack[1]?,
         optEntry s.stack[2]?, byteOf (bitOf (s.bodyState == .raised)), byteOf (tippingCode s.settings.tipping) ]])

/-! ### READ FOREIGN, READ LINE STATUS (R47, R16) -/

/-- READ_FOREIGN: the entry at an index, or NOT-FOUND; the answer carries the entry count (R47, R184). -/
def execReadForeign (r : Request) (s : State) : Host.Outcome State Fault Refusal :=
  .next (s.request r codeReadForeign ((byteAt r 0).bind (inRange 0 7)) fun i s =>
    match s.foreign[i]? with
    | none => s.refuse r codeReadForeign .notFound
    | some e =>
      s.answer r codeReadForeign
        [ [byteOf (16 * e.lineMask.toNat + 8 * bitOf e.motionSeen + (s.foreign.length - 1))] ++ be32 e.id ++
          [byteOf e.hits, e.rssi, byteOf (min 255 (keptSpan e.tick s.tick / 10))] ])

/-- READ_LINE_STATUS: the four error counts of a line, cleared where the request says so (R16). -/
def execReadLineStatus (r : Request) (s : State) : Host.Outcome State Fault Refusal :=
  .next (s.request r codeReadLineStatus
    (match (byteAt r 0).bind fourOfCode, byteAt r 1 with
      | some i, some b => some (i, b.testBit 0)
      | _, _ => none)
    fun q s =>
      let x := s.line q.1
      let s1 := if q.2 then s.setLine q.1 { x with framing := 0, check := 0, crc := 0, ident := 0 } else s
      s1.answer r codeReadLineStatus
        [be16 x.framing.toNat ++ be16 x.check.toNat ++ be16 x.crc.toNat ++ be16 x.ident.toNat])

/-! ### READ STATUS (R170) -/

/-- Frame 1 of READ STATUS. -/
def statusBytes1 (s : State) (port : Port) : List Byte :=
  let own := s.port port
  let other := s.port port.other
  [ Reply.done.code, s.address, byteOf own.errors,
    byteOf (bitOf own.overflow + 2 * bitOf (other.mode != .active) + 4 * bitOf other.overflow +
      8 * bitOf s.trailerPresent),
    s.warn.level.code ]

/-- Frame 2 of READ STATUS; its truck lock byte is 01h while the lock is set and 00h while it is clear (log 35). -/
def statusBytes2 (s : State) : List Byte :=
  [ s.grant.state.code,
    byteOf (s.grant.waiting.length + 4 * (s.grant.waiting[0]?.map portCode).getD 0 +
      8 * (s.grant.waiting[1]?.map portCode).getD 0),
    byteOf (bitOf s.grant.truckLock) ] ++ be16 s.grant.revision.toNat

/-- Frame 3 of READ STATUS. -/
def statusBytes3 (s : State) : List Byte :=
  [ byteOf s.context.load, byteOf (s.context.truckLifted.toNat + 16 * s.context.trailerLifted.toNat),
    byteOf s.context.ambient ]

/-- Frame 4 of READ STATUS; without a session the head is absent and the other session fields are
zero (log 17). Of the flags "bits 2–0 DEFAULTED T, L, P and bits 6–4 WRITE-FAILED T, L, P" (R184), T is in
the highest bit of its three and P in the lowest (log 32). -/
def statusBytes4 (s : State) : List Byte :=
  (match s.teach with
    | none => [0, optPos none, 0, 0]
    | some t => [ byteOf (128 + portCode t.owner), optPos t.queue.head?, byteOf t.queue.length, byteOf t.count ]) ++
    [ byteOf (4 * bitOf s.flags.t.defaulted + 2 * bitOf s.flags.l.defaulted + bitOf s.flags.p.defaulted +
        64 * bitOf s.flags.t.writeFailed + 32 * bitOf s.flags.l.writeFailed + 16 * bitOf s.flags.p.writeFailed) ]

/-- READ_STATUS: four frames of running state; the asking port's overflow flag is shown, then cleared
before the frames are queued (R170, R174, R184). -/
def execReadStatus (r : Request) (s : State) : Host.Outcome State Fault Refusal :=
  .next (s.request r codeReadStatus (some ()) fun _ s =>
    let frames := [statusBytes1 s r.port, statusBytes2 s, statusBytes3 s, statusBytes4 s]
    (s.setPort r.port { s.port r.port with overflow := false }).answer r codeReadStatus frames)

/-- UNKNOWN_REQUEST: a code that names no request is refused INVALID, the answer carrying the code as
received (R166). A known code is not this command (log 14). -/
def execUnknownRequest (code : Byte) (r : Request) (s : State) : Host.Outcome State Fault Refusal :=
  if namesRequest code then .refused (.codeNamesARequest code)
  else .next (s.request r code (none : Option Unit) fun _ s => s)

end Sys2Proof.Machine
end

