-- ==== Sys2Proof/Machine/Requests.lean ====
section
/-! DEFINITION. The requests that need no grant and change state: ACK, HOLD, UNHOLD, PUSH, POP,
GRANT_REQUEST, GRANT_RELEASE, VEHICLE_STATE. -/

namespace Sys2Proof.Machine

/-! ### Acknowledgement and hold -/

/-- The positions that an ACK names: one, or all with FFh (R123, R183). -/
def ackOperand (r : Request) : Option (List Pos) :=
  (byteAt r 0).bind fun n => if n = 0xFF then some allPositions else (posOfCode n).map fun p => [p]

/-- A port's side of a position emptied: latched set and capture (R123). -/
def Position.acknowledge (x : Position) (port : Port) : Position :=
  { x with latched := x.latched.set port 0, capture := x.capture.set port none }

/-- ACK: the requesting port's sets and captures emptied at the named positions; the answer carries
how many sets were not empty (R123). -/
def execAck (r : Request) (s : State) : Host.Outcome State Fault Refusal :=
  .next (s.request r codeAck (ackOperand r) fun ps s =>
    let count := (ps.filter fun p => (s.pos p).latched.get r.port != 0).length
    let s1 := s.mapPos fun p x => if ps.contains p then x.acknowledge r.port else x
    s1.recomputeWarn.answer r codeAck [[Reply.done.code, byteOf count]])

/-- HOLD: a WAITING, ACTIVE or MISSING position is taken out of service (R52). -/
def execHold (r : Request) (s : State) : Host.Outcome State Fault Refusal :=
  .next (s.request r codeHold (positionOperand r) fun p s =>
    match (s.pos p).state with
    | .unassigned => s.refuse r codeHold .invalid
    | .detached => s.refuse r codeHold .invalid
    | .held => s.reply r codeHold .done
    | .waiting => (s.takeHold p).recomputeWarn.reply r codeHold .done
    | .active => (s.takeHold p).recomputeWarn.reply r codeHold .done
    | .missing => (s.takeHold p).recomputeWarn.reply r codeHold .done)

/-- UNHOLD: a HELD position returns to its state before the hold (R53). -/
def execUnhold (r : Request) (s : State) : Host.Outcome State Fault Refusal :=
  .next (s.request r codeUnhold (positionOperand r) fun p s =>
    if (s.pos p).state = .held then (s.restoreHold p).recomputeWarn.reply r codeUnhold .done
    else s.reply r codeUnhold .done)

/-! ### The Profile Stack -/

/-- PUSH: an entry of the requesting port's origin on top (R99, R100). -/
def execPush (r : Request) (s : State) : Host.Outcome State Fault Refusal :=
  .next (s.request r codePush (profileOperand r) fun i s =>
    (s.changeStack (pushChange s.stack { index := i, origin := .port r.port } .push (some r.port))).recomputeWarn.reply
      r codePush .done)

/-- POP: the topmost entry of the requesting port's origin removed, or NOT-FOUND (R99, R102). -/
def execPop (r : Request) (s : State) : Host.Outcome State Fault Refusal :=
  .next (s.request r codePop (some ()) fun _ s =>
    match popChange s.stack (.port r.port) .pop (some r.port) with
    | none => s.refuse r codePop .notFound
    | some c => (s.changeStack c).recomputeWarn.reply r codePop .done)

/-! ### The edit grant -/

/-- A port that asks while the grant is not free joins the end of the list, or keeps its place (R146). -/
def State.joinWaiting (s : State) (p : Port) : State :=
  if s.grant.waiting.contains p then s
  else { s with grant := { s.grant with waiting := s.grant.waiting ++ [p] } }

/-- GRANT_REQUEST (R146). The holder's request restarts the idle timer, as R146 and R147 say; the last paragraph of
R144 lists it among the requests that do not (log 34). -/
def execGrantRequest (r : Request) (s : State) : Host.Outcome State Fault Refusal :=
  .next (s.request r codeGrantRequest (some ()) fun _ s =>
    match s.grant.state with
    | .free => (s.beginTenure r.port s.grant.waiting).reply r codeGrantRequest .granted
    | .held p =>
      if p = r.port then s.refreshIdle.reply r codeGrantRequest .granted
      else (s.joinWaiting r.port).reply r codeGrantRequest .queued
    | .saving => (s.joinWaiting r.port).reply r codeGrantRequest .queued)

/-- GRANT_RELEASE: the holder's tenure ends, or a waiter leaves the list, or NOT-HELD (R148, R151). -/
def execGrantRelease (r : Request) (s : State) : Host.Outcome State Fault Refusal :=
  .next (s.request r codeGrantRelease (some ()) fun _ s =>
    if s.grant.state = .held r.port then (s.endTenure r.port).reply r codeGrantRelease .done
    else if s.grant.waiting.contains r.port then (s.stopWaiting r.port).reply r codeGrantRelease .done
    else s.refuse r codeGrantRelease .notHeld)

/-! ### The vehicle context -/

/-- The load that a VEHICLE STATE carries, clamped; `none` when not sent (R60). -/
def loadOperand (r : Request) : Option Nat :=
  (byteAt r 0).bind fun n => if n = 255 then none else some (min 100 n)

/-- The ambient that a VEHICLE STATE carries, clamped; `none` when not sent (R60). -/
def ambientOperand (r : Request) : Option Nat :=
  (byteAt r 3).bind fun n => if n = 0 then none else some (clampNat 60 110 n)

/-- A lifted mask that a VEHICLE STATE carries, with its presence flag set; `none` when not sent (R60). -/
def maskOperand (r : Request) (flagBit shift : Nat) : Option AxleMask :=
  match byteAt r 1, byteAt r 2 with
  | some m, some f => if f.testBit flagBit then some (BitVec.ofNat 4 (m >>> shift)) else none
  | _, _ => none

/-- The axles of a section that are not ABSENT, `base` being its first axle (R60). -/
def State.fittedAxles (s : State) (base : Fin 5) : AxleMask :=
  (List.finRange 4).foldl (fun m i =>
    if (s.axle ⟨base.val + i.val, by omega⟩).kind != .absent then m ||| (1#4 <<< i.val) else m) 0

/-- A field of VEHICLE STATE: taken when it is sent by its designated source (R59). -/
def takeField {α : Type} (fromSource : Bool) (sent : Option α) (heldValue : α) : α :=
  match sent with
  | some v => if fromSource then v else heldValue
  | none => heldValue

/-- The context after a VEHICLE STATE frame, its four fields judged one by one (R59, R60). -/
def State.contextAfter (s : State) (r : Request) : Context :=
  { load := takeField (r.port == s.settings.loadSource) (loadOperand r) s.context.load
    truckLifted := takeField (r.port == s.settings.truckSource)
      ((maskOperand r 0 0).map (· &&& s.fittedAxles 0)) s.context.truckLifted
    trailerLifted := takeField (r.port == s.settings.trailerSource)
      ((maskOperand r 1 4).map (· &&& s.fittedAxles 4)) s.context.trailerLifted
    ambient := takeField true (ambientOperand r) s.context.ambient }

/-- VEHICLE_STATE: the context updated, one re-evaluation where a held value changed, no answer; ignored
while STARTING (R59, R75). -/
def execVehicleState (r : Request) (s : State) : Host.Outcome State Fault Refusal :=
  .next
    (if s.takes r && s.phase == .running && s.contextAfter r != s.context then
      ({ s with context := s.contextAfter r }).reevaluate.recomputeWarn
    else s)

end Sys2Proof.Machine
end

