-- ==== Sys2Proof/Machine/StartUp.lean ====
section
/-! DEFINITION. The commands of reset, start-up and saving: DEVICE_RESET, END_OF_STARTING,
SECTION_SAVE (chapter 10). -/

namespace Sys2Proof.Machine

/-- A line through a device reset: everything at reset, the numbers of its gap timer's runs going on, so that none
names two runs (R4, log 33). -/
def Line.restart (x : Line) : Line := { Line.atReset with gapRuns := x.gapRuns }

/-- DEVICE_RESET: the part STARTING with tick 0 and every volatile value at reset; the store kept as
R164 lays down, the straps read, the pins and the waiting commands as they are (R160, R164, R165,
and the reset table of each chapter). -/
def execDeviceReset (straps : BitVec 2) (cut : SaveCut) (s : State) : Host.Outcome State Fault Refusal :=
  .next
    { State.reset with
      pending := s.pending
      straps := straps
      trl := s.trl
      body := s.body
      lines := s.lines.map Line.restart
      store := s.storeAfterCut cut }

/-- A port's timer and rotation at the end of STARTING (R175). -/
def PortCtl.startRotation (c : PortCtl) (now : Tick) (period : Nat) : PortCtl :=
  { c with
    nextAxle := 0
    periodDue := match c.mode with
      | .active => some (after now period)
      | .busOff _ => none }

/-- The part becomes RUNNING: inputs read, store loaded, grant FREE, rotations started (R161). -/
def State.startRunning (s : State) : State :=
  let s1 := State.loadStore
    { s with
      trailerPresent := s.trl
      trlTimer := none
      bodyState := if s.body then .raised else .lowered
      bodyTimer := none
      foreign := [] }
  { s1 with
    phase := .running
    grant := { s1.grant with
      state := .free, waiting := [], marks := .all false, idleTimer := none, toSave := [] }
    ports :=
      { a := s1.ports.a.startRotation s1.tick s1.settings.reportPeriod.a
        b := s1.ports.b.startRotation s1.tick s1.settings.reportPeriod.b } }

/-- END_OF_STARTING: the part becomes RUNNING; with the body up, the BODY entry is pushed then
(R57, R111, R160, R161). -/
def execEndOfStarting (s : State) : Host.Outcome State Fault Refusal :=
  .next
    (if s.phase = .starting then
      let s1 := s.startRunning
      (if s1.bodyState = .raised then s1.bodyRises else s1).recomputeWarn
    else s)

/-- SECTION_SAVE: the section being written is dealt with; none is while the grant is not SAVING
(R152, R162, R163). -/
def execSectionSave (r : SaveResult) (s : State) : Host.Outcome State Fault Refusal :=
  .next
    (if s.grant.state = .saving then
      match s.grant.toSave with
      | [] => s
      | n :: rest => s.finishSection n rest r
    else s)

end Sys2Proof.Machine
end

