-- ==== Sys2Proof/Machine/Timers.lean ====
section
/-! DEFINITION. The commands of the part's timers and discrete inputs: deadlines, TRL and BODY, the
flash pattern, the idle timer, and the saturation of kept ticks. -/

namespace Sys2Proof.Machine

/-- DEADLINE_EXPIRY: the position whose deadline is the counter's value falls MISSING (R79, R85);
a deadline that has been moved or removed does not expire (R86). -/
def execDeadlineExpiry (p : Pos) (s : State) : Host.Outcome State Fault Refusal :=
  .next (if (s.pos p).deadline = some s.tick then (s.fallMissing p).recomputeWarn else s)

/-- STEP_DEADLINE_EXPIRY: the session whose step deadline is the counter's value ends TIMEOUT (R134). -/
def execStepDeadlineExpiry (s : State) : Host.Outcome State Fault Refusal :=
  .next
    (match s.teach with
    | none => s
    | some t => if t.stepDeadline = s.tick then s.endTeach .timeout else s)

/-- The debounce timer of an input after its level changes: running from the first tick of the
differing level, stopped when the level returns (R48, R105). -/
def debounce (differs : Bool) (timer : Option Tick) (now : Tick) : Option Tick :=
  if differs then some (timer.getD now) else none

/-- TRL_CHANGE: the level is followed; the debounce timer runs while it differs from trailer-present
(R48), not while STARTING (R161). -/
def execTrlChange (high : Bool) (s : State) : Host.Outcome State Fault Refusal :=
  .next
    { s with
      trl := high
      trlTimer := if s.phase = .running then debounce (high != s.trailerPresent) s.trlTimer s.tick
        else s.trlTimer }

/-- TRL_DEBOUNCE_EXPIRY: once the differing level has held for 2 s, trailer-present takes it, and
the section is decoupled, with its positions leaving the Teach Queue, or recoupled (R48, R49, R50, R140). -/
def execTrlDebounceExpiry (s : State) : Host.Outcome State Fault Refusal :=
  .next
    (if ranOut s.trlTimer s.tick Config.trlDebounceTicks && s.trl != s.trailerPresent then
      let s1 := { s with trlTimer := none }
      (if s.trl then s1.recouple
       else s1.decouple.removeFromTeach (fun p => !inTruck p) false .detached).recomputeWarn
    else s)

/-- BODY_CHANGE: the level is followed; the debounce timer runs while it differs from the body state
(R105), not while STARTING (R161). -/
def execBodyChange (high : Bool) (s : State) : Host.Outcome State Fault Refusal :=
  .next
    { s with
      body := high
      bodyTimer := if s.phase = .running then
          debounce (high != (s.bodyState == .raised)) s.bodyTimer s.tick
        else s.bodyTimer }

/-- BODY_DEBOUNCE_EXPIRY: once the differing level has held for 500 ms, the body state takes it; the BODY
entry is pushed or removed (R105, R106, R107). -/
def execBodyDebounceExpiry (s : State) : Host.Outcome State Fault Refusal :=
  .next
    (if ranOut s.bodyTimer s.tick Config.bodyDebounceTicks && s.body != (s.bodyState == .raised) then
      let s1 := { s with bodyTimer := none, bodyState := if s.body then .raised else .lowered }
      (if s.body then s1.bodyRises else s1.bodyFalls).recomputeWarn
    else s)

/-- The WARN line at a moment of the flash pattern: a new phase once period ticks have passed, low
once width ticks have (R127). -/
def flashStep (w : Warn) (period width : Nat) (now : Tick) : Warn :=
  if period ≤ span w.phaseStart now then { w with phaseStart := now, high := true }
  else if width ≤ span w.phaseStart now then { w with high := false }
  else w

/-- FLASH_PHASE: the pattern moves on while the level is FLASH (R127). -/
def execFlashPhase (s : State) : Host.Outcome State Fault Refusal :=
  .next
    (if s.warn.level = .flash then
      { s with warn := flashStep s.warn s.settings.flashPeriod s.settings.flashWidth s.tick }
    else s)

/-- IDLE_EXPIRY: once the idle timer has run for 30 s, GRANT LOST naming the holder, then the tenure ends
(R147, R151). A timer that an edit or a handover has set again has not expired (R147, R148). -/
def execIdleExpiry (s : State) : Host.Outcome State Fault Refusal :=
  .next
    (match s.grant.state with
    | .held p =>
      if ranOut s.grant.idleTimer s.tick Config.idleTicks then
        (s.notice codeGrantLost [byteOf (portCode p)]).endTenure p
      else s
    | .free => s
    | .saving => s)

/-- Whether 8,388,607 ticks have passed since a kept tick not yet saturated (R1). -/
def saturates (now : Tick) (k : KeptTick) : Bool := !k.saturated && Config.spanMax ≤ span k.tick now

/-- A kept tick after KEPT_TICK_SATURATION (R1). -/
def saturate (now : Tick) (k : KeptTick) : KeptTick :=
  if saturates now k then { k with saturated := true } else k

/-- A position's kept ticks after KEPT_TICK_SATURATION: the last sample's and the leak history's. -/
def Position.saturate (now : Tick) (x : Position) : Position :=
  { x with
    sample := x.sample.map fun sm => { sm with tick := Machine.saturate now sm.tick }
    leakHistory := x.leakHistory.map fun e => { e with tick := Machine.saturate now e.tick } }

/-- KEPT_TICK_SATURATION: every kept tick that has come so far is from now on at the largest span
(R1, log 22). -/
def execKeptTickSaturation (s : State) : Host.Outcome State Fault Refusal :=
  .next
    { s.mapPos (fun _ x => x.saturate s.tick) with
      foreign := s.foreign.map fun e => { e with tick := saturate s.tick e.tick } }

end Sys2Proof.Machine
end

