-- ==== Sys2Proof/Machine/Transmit.lean ====
section
/-! DEFINITION. The commands of the port controllers' transmitters: CYCLIC_REPORT, FRAME_OFFER,
ATTEMPT_END, BUS_OFF_RETURN (chapter 11). -/

namespace Sys2Proof.Machine

/-- The axle `k` steps on from another, round from 7 to 0. -/
def axlePlus (a : AxleNo) (k : Nat) : AxleNo := ⟨(a.val + k) % 8, by omega⟩

/-- The first present axle from a port's next-axle number up and round (R175). -/
def State.nextPresentAxle (s : State) (start : AxleNo) : Option AxleNo :=
  ((List.range 8).map (axlePlus start)).find? s.axlePresent

/-- The cyclic position reports of an axle queued on a port, in its visiting order (R175). -/
def State.reportAxle (s : State) (port : Port) (a : AxleNo) : State :=
  (s.visited a (s.settings.order.get port) 0 4).foldl
    (fun s p => s.report port 5 codePositionReport (s.positionReport p port)) s

/-- CYCLIC_REPORT: at the expiry of an ACTIVE port's period timer the next present axle is reported
and the timer set again (R175). -/
def execCyclicReport (port : Port) (s : State) : Host.Outcome State Fault Refusal :=
  .next
    (let c := s.port port
     if s.phase = .running ∧ c.mode = .active ∧ c.periodDue = some s.tick then
       let s1 := s.setPort port
         { c with periodDue := some (after s.tick (s.settings.reportPeriod.get port)) }
       match s.nextPresentAxle c.nextAxle with
       | none => s1
       | some a =>
         let s2 := s1.reportAxle port a
         s2.setPort port { s2.port port with nextAxle := axlePlus a 1 }
     else s)

/-- The lowest identifier in a queue (R172). -/
def lowestIdent (q : List TxFrame) : Option FrameIdent :=
  q.foldl (fun m f => match m with
    | none => some f.ident
    | some i => some (if f.ident < i then f.ident else i)) none

/-- The first frame with an identifier put in transmission (R172). -/
def markFirst (i : FrameIdent) : List TxFrame → List TxFrame
  | [] => []
  | f :: rest => if f.ident = i then { f with sending := true } :: rest else f :: markFirst i rest

/-- FRAME_OFFER: an idle transmitter of an ACTIVE port offers the queued frame with the lowest
identifier, the oldest among equals (R172). -/
def execFrameOffer (port : Port) (s : State) : Host.Outcome State Fault Refusal :=
  .next
    (let c := s.port port
     if c.mode = .active ∧ c.queue.any (·.sending) = false then
       match lowestIdent c.queue with
       | none => s
       | some i => s.setPort port { c with queue := markFirst i c.queue }
     else s)

/-- The queue with no frame in transmission. -/
def idleQueue (q : List TxFrame) : List TxFrame := q.map fun f => { f with sending := false }

/-- ATTEMPT_END: success removes the frame and lowers the error count, lost arbitration leaves it
queued, failure raises the count and may take the port into BUS-OFF (R172, R177, R178). -/
def execAttemptEnd (port : Port) (r : AttemptResult) (s : State) : Host.Outcome State Fault Refusal :=
  .next
    (let c := s.port port
     if c.queue.any (·.sending) then
       match r with
       | .success => s.setPort port { c with queue := c.queue.eraseP (·.sending), errors := c.errors - 1 }
       | .lostArbitration => s.setPort port { c with queue := idleQueue c.queue }
       | .failure =>
         if c.errors + Config.errorRise > Config.errorMax then s.portReset port
         else s.setPort port
           { c with queue := idleQueue c.queue, errors := c.errors + Config.errorRise }
     else s)

/-- BUS_OFF_RETURN: one second after the port entered BUS-OFF it is ACTIVE again with its count at 0 and,
once the part is RUNNING, its period timer started (R175, R177, log 23). -/
def execBusOffReturn (port : Port) (s : State) : Host.Outcome State Fault Refusal :=
  .next
    (let c := s.port port
     match c.mode with
     | .active => s
     | .busOff since =>
       if ranOut (some since) s.tick Config.busOffTicks then
         s.setPort port
           { c with
             mode := .active
             errors := 0
             periodDue := if s.phase = .running then
                 some (after s.tick (s.settings.reportPeriod.get port)) else none }
       else s)

end Sys2Proof.Machine
end

