-- ==== Sys2Proof/Machine/Dispatch.lean ====
section
/-! DEFINITION. The meaning of each command: one arm per row of spec/opcode_table.json, in its order. -/

namespace Sys2Proof.Machine

def exec (i : Instr) (s : State) : Host.Outcome State Fault Refusal :=
  match i with
  | .deviceReset straps cut => Sys2Proof.Machine.execDeviceReset straps cut s
  | .endOfStarting => Sys2Proof.Machine.execEndOfStarting s
  | .receivedByte line stopHigh value => Sys2Proof.Machine.execReceivedByte line stopHigh value s
  | .gapExpiry run => Sys2Proof.Machine.execGapExpiry run s
  | .windowExpiry id seq => Sys2Proof.Machine.execWindowExpiry id seq s
  | .deadlineExpiry p => Sys2Proof.Machine.execDeadlineExpiry p s
  | .stepDeadlineExpiry => Sys2Proof.Machine.execStepDeadlineExpiry s
  | .trlChange high => Sys2Proof.Machine.execTrlChange high s
  | .trlDebounceExpiry => Sys2Proof.Machine.execTrlDebounceExpiry s
  | .bodyChange high => Sys2Proof.Machine.execBodyChange high s
  | .bodyDebounceExpiry => Sys2Proof.Machine.execBodyDebounceExpiry s
  | .flashPhase => Sys2Proof.Machine.execFlashPhase s
  | .cyclicReport port => Sys2Proof.Machine.execCyclicReport port s
  | .frameOffer port => Sys2Proof.Machine.execFrameOffer port s
  | .attemptEnd port result => Sys2Proof.Machine.execAttemptEnd port result s
  | .busOffReturn port => Sys2Proof.Machine.execBusOffReturn port s
  | .idleExpiry => Sys2Proof.Machine.execIdleExpiry s
  | .sectionSave result => Sys2Proof.Machine.execSectionSave result s
  | .readPosition r => Sys2Proof.Machine.execReadPosition r s
  | .readAxle r => Sys2Proof.Machine.execReadAxle r s
  | .readProfile r => Sys2Proof.Machine.execReadProfile r s
  | .readSettings r => Sys2Proof.Machine.execReadSettings r s
  | .readForeign r => Sys2Proof.Machine.execReadForeign r s
  | .readLineStatus r => Sys2Proof.Machine.execReadLineStatus r s
  | .readStack r => Sys2Proof.Machine.execReadStack r s
  | .readStatus r => Sys2Proof.Machine.execReadStatus r s
  | .ack r => Sys2Proof.Machine.execAck r s
  | .hold r => Sys2Proof.Machine.execHold r s
  | .unhold r => Sys2Proof.Machine.execUnhold r s
  | .push r => Sys2Proof.Machine.execPush r s
  | .pop r => Sys2Proof.Machine.execPop r s
  | .grantRequest r => Sys2Proof.Machine.execGrantRequest r s
  | .grantRelease r => Sys2Proof.Machine.execGrantRelease r s
  | .writePosition r => Sys2Proof.Machine.execWritePosition r s
  | .writeAxle r => Sys2Proof.Machine.execWriteAxle r s
  | .writeProfile r => Sys2Proof.Machine.execWriteProfile r s
  | .writeSettings r => Sys2Proof.Machine.execWriteSettings r s
  | .clearSection r => Sys2Proof.Machine.execClearSection r s
  | .lockTruck r => Sys2Proof.Machine.execLockTruck r s
  | .teachStart r => Sys2Proof.Machine.execTeachStart r s
  | .teachAppend r => Sys2Proof.Machine.execTeachAppend r s
  | .teachAbort r => Sys2Proof.Machine.execTeachAbort r s
  | .vehicleState r => Sys2Proof.Machine.execVehicleState r s
  | .unknownRequest code r => Sys2Proof.Machine.execUnknownRequest code r s
  | .keptTickSaturation => Sys2Proof.Machine.execKeptTickSaturation s

end Sys2Proof.Machine
end

