-- ==== Sys2Proof/Machine/Time.lean ====
section
/-! DEFINITION. The passing of time, which no command of the table names: what falls due in the present
tick, and what the part does when no command waits (log 1 to 3). -/

namespace Sys2Proof.Machine

/-- The command, where its condition holds. -/
def eventIf (c : Bool) (i : Instr) : List Instr := if c then [i] else []

/-- The lines whose gap timer started in an earlier tick (R8: 5 ms). -/
def State.dueGaps (s : State) : List Instr :=
  (List.finRange 4).flatMap fun i =>
    eventIf (ranOut (s.line i).gapTimer s.tick Config.shortTimerTicks)
      (.gapExpiry { line := i, number := (s.line i).gapRuns })

/-- The windows opened in an earlier tick, oldest first (R24: 60 ms; R25). -/
def State.dueWindows (s : State) : List Instr :=
  s.merge.flatMap fun e =>
    eventIf (ranOut (some e.openingTick) s.tick Config.shortTimerTicks) (.windowExpiry e.id e.seq)

/-- The supervision deadlines that the counter stands at, positions ascending (R79). -/
def State.dueDeadlines (s : State) : List Instr :=
  allPositions.flatMap fun p => eventIf ((s.pos p).deadline == some s.tick) (.deadlineExpiry p)

/-- Whether the step deadline of the session is the counter's value (R134). -/
def State.dueStep (s : State) : Bool :=
  match s.teach with
  | some t => t.stepDeadline == s.tick
  | none => false

/-- Whether the pattern of the WARN line moves on in the present tick (R127). -/
def State.dueFlash (s : State) : Bool :=
  s.warn.level == .flash &&
    flashStep s.warn s.settings.flashPeriod s.settings.flashWidth s.tick != s.warn

/-- Whether a port's period timer expires in the present tick (R175). -/
def State.dueCyclic (s : State) (p : Port) : Bool :=
  s.phase == .running && (s.port p).mode == .active && (s.port p).periodDue == some s.tick

/-- Whether a port's idle transmitter has a frame to offer (R172). -/
def State.dueOffer (s : State) (p : Port) : Bool :=
  (s.port p).mode == .active && !(s.port p).queue.any (·.sending) && !(s.port p).queue.isEmpty

/-- Whether a port's second of BUS-OFF is over (R177). -/
def State.dueReturn (s : State) (p : Port) : Bool :=
  match (s.port p).mode with
  | .active => false
  | .busOff since => ranOut (some since) s.tick Config.busOffTicks

/-- Whether the holder's idle timer has run out (R147). -/
def State.dueIdle (s : State) : Bool :=
  match s.grant.state with
  | .held _ => ranOut s.grant.idleTimer s.tick Config.idleTicks
  | .free => false
  | .saving => false

/-- Whether a kept tick reaches its largest span (R1). -/
def State.dueSaturation (s : State) : Bool :=
  allPositions.any (fun p => s.pos p != (s.pos p).saturate s.tick) ||
    s.foreign.any (fun e => saturates s.tick e.tick)

/-- What falls due by itself in the present tick. The ends of an attempt and of a section save are not
here: their results are the bus's and the store's (log 3). -/
def State.dueEvents (s : State) : List Instr :=
  eventIf (s.phase == .starting && Config.shortTimerTicks ≤ s.tick.toNat) .endOfStarting ++
    eventIf (s.dueOffer .a) (.frameOffer .a) ++ eventIf (s.dueOffer .b) (.frameOffer .b) ++
    s.dueGaps ++ s.dueWindows ++ s.dueDeadlines ++ eventIf s.dueStep .stepDeadlineExpiry ++
    eventIf (s.trl != s.trailerPresent && ranOut s.trlTimer s.tick Config.trlDebounceTicks)
      .trlDebounceExpiry ++
    eventIf (s.body != (s.bodyState == .raised) && ranOut s.bodyTimer s.tick Config.bodyDebounceTicks)
      .bodyDebounceExpiry ++
    eventIf s.dueIdle .idleExpiry ++
    eventIf (s.dueReturn .a) (.busOffReturn .a) ++ eventIf (s.dueReturn .b) (.busOffReturn .b) ++
    eventIf s.dueFlash .flashPhase ++
    eventIf (s.dueCyclic .a) (.cyclicReport .a) ++ eventIf (s.dueCyclic .b) (.cyclicReport .b) ++
    eventIf s.dueSaturation .keptTickSaturation

/-- What the part does when no command waits: the events of the present tick come to wait, or where
there is none the tick counter advances (R1, log 1). -/
def State.idle (s : State) : State :=
  if s.dueEvents.isEmpty then { s with tick := s.tick + 1 }
  else { s with pending := s.pending ++ s.dueEvents }

end Sys2Proof.Machine
end

