-- ==== Sys2Proof/Machine/Step.lean ====
section
/-! DEFINITION. One step of the part: the command at the front of the queue is taken whole; with no
command waiting, time passes. -/

namespace Sys2Proof.Machine

/-- One step. -/
def step (s : State) : Host.Outcome State Fault Refusal :=
  match s.pending with
  | [] => .next s.idle
  | c :: rest => exec c { s with pending := rest }

/-- The state with a frame that has come complete on a bus: its command joins the end of the queue
(R166, log 26). -/
def State.receiveFrame (s : State) (f : BusFrame) : State := { s with pending := s.pending ++ [f.command] }

/-- The state with the command that a word spells put at the front of the queue; the table gives no
bits, so no word spells one (log 26). -/
def State.withFetchWord (s : State) (nbits w : Nat) : State :=
  match decodeTableWord nbits w with
  | some c => { s with pending := c :: s.pending }
  | none => s

end Sys2Proof.Machine
end

