-- ==== Sys2Proof/Safety.lean ====
section
/-! DEFINITION. The terms that statements about the TQ832 use: when a request is taken, what an outcome shows,
and the laws that the manual says hold at every moment. Each law is a property of one state. -/

namespace Sys2Proof.Machine

/-! ### Requests -/

/-- The port takes the frame, and the part is RUNNING (R161, R165, R166). -/
def State.serves (s : State) (r : Request) : Prop := s.takes r = true ∧ s.phase = .running

/-- The code and the frame of a command that is a request of the part (R180). -/
def requestOf : Instr → Option (Byte × Request)
  | .readPosition r => some (0x01, r)
  | .readAxle r => some (0x02, r)
  | .readProfile r => some (0x03, r)
  | .readSettings r => some (0x04, r)
  | .readForeign r => some (0x05, r)
  | .readLineStatus r => some (0x06, r)
  | .readStack r => some (0x07, r)
  | .readStatus r => some (0x08, r)
  | .ack r => some (0x10, r)
  | .hold r => some (0x11, r)
  | .unhold r => some (0x12, r)
  | .push r => some (0x13, r)
  | .pop r => some (0x14, r)
  | .grantRequest r => some (0x20, r)
  | .grantRelease r => some (0x21, r)
  | .writePosition r => some (0x30, r)
  | .writeAxle r => some (0x31, r)
  | .writeProfile r => some (0x32, r)
  | .writeSettings r => some (0x33, r)
  | .clearSection r => some (0x34, r)
  | .lockTruck r => some (0x35, r)
  | .teachStart r => some (0x40, r)
  | .teachAppend r => some (0x41, r)
  | .teachAbort r => some (0x42, r)
  | .vehicleState r => some (0x50, r)
  | .unknownRequest code r => some (code, r)
  | .deviceReset _ _ => none
  | .endOfStarting => none
  | .receivedByte _ _ _ => none
  | .gapExpiry _ => none
  | .windowExpiry _ _ => none
  | .deadlineExpiry _ => none
  | .stepDeadlineExpiry => none
  | .trlChange _ => none
  | .trlDebounceExpiry => none
  | .bodyChange _ => none
  | .bodyDebounceExpiry => none
  | .flashPhase => none
  | .cyclicReport _ => none
  | .frameOffer _ => none
  | .attemptEnd _ _ => none
  | .busOffReturn _ => none
  | .idleExpiry => none
  | .sectionSave _ => none
  | .keptTickSaturation => none

/-- The codes of the requests that need the edit grant (R144, R180). -/
def editCodes : List Byte := [0x30, 0x31, 0x32, 0x33, 0x34, 0x35, 0x40, 0x41, 0x42]

/-- Whether the mandatory fields of a request can be read and name something (R166, R183); an unknown code
names nothing. True of a command that is no request. -/
def operandsReadable : Instr → Bool
  | .readPosition r => (positionOperand r).isSome
  | .readAxle r => (axleReadOperand r).isSome
  | .readProfile r => (profileOperand r).isSome
  | .readSettings _ => true
  | .readForeign r => (byteAt r 0).any (· ≤ 7)
  | .readLineStatus r => (byteAt r 0).any (· ≤ 3) && (byteAt r 1).isSome
  | .readStack _ => true
  | .readStatus _ => true
  | .ack r => (ackOperand r).isSome
  | .hold r => (positionOperand r).isSome
  | .unhold r => (positionOperand r).isSome
  | .push r => (profileOperand r).isSome
  | .pop _ => true
  | .grantRequest _ => true
  | .grantRelease _ => true
  | .writePosition r => (positionWriteOperand r).isSome
  | .writeAxle r => (axleWriteOperand r).isSome
  | .writeProfile r => (profileWriteOperand r).isSome
  | .writeSettings r => (settingsWriteOperand r).isSome
  | .clearSection r => (byteAt r 0).any (· ≤ 1)
  | .lockTruck _ => true
  | .teachStart r => (listOperand 6 r).isSome
  | .teachAppend r => (listOperand 7 r).isSome
  | .teachAbort _ => true
  | .vehicleState _ => true
  | .unknownRequest _ _ => false
  | .deviceReset _ _ => true
  | .endOfStarting => true
  | .receivedByte _ _ _ => true
  | .gapExpiry _ => true
  | .windowExpiry _ _ => true
  | .deadlineExpiry _ => true
  | .stepDeadlineExpiry => true
  | .trlChange _ => true
  | .trlDebounceExpiry => true
  | .bodyChange _ => true
  | .bodyDebounceExpiry => true
  | .flashPhase => true
  | .cyclicReport _ => true
  | .frameOffer _ => true
  | .attemptEnd _ _ => true
  | .busOffReturn _ => true
  | .idleExpiry => true
  | .sectionSave _ => true
  | .keptTickSaturation => true

/-- The request is served on the port that holds the edit grant (R144, R145). -/
def State.servesHolder (s : State) (r : Request) : Prop := s.serves r ∧ s.grant.state = .held r.port

/-! ### Frames raised, kinds gone live, the walk: what statements say of outcomes -/

/-- The state with a frame raised on both ports, with target FFh and the part as sender (R165, R171). -/
def State.raisedOnBoth (s : State) (priority : BitVec 3) (cls : BitVec 2) (code : Byte)
    (data : Port → List Byte) : State :=
  { s with ports :=
      { a := (s.port .a).enqueue
          { ident := priority ++ cls ++ code ++ 0xFF#8 ++ s.address, data := data .a, sending := false }
        b := (s.port .b).enqueue
          { ident := priority ++ cls ++ code ++ 0xFF#8 ++ s.address, data := data .b, sending := false } } }

/-- The transitions of a position from one state to another: the kinds not live before and live after, in
mask bit order (R112, R115). -/
def wentLive (before after : State) (p : Pos) : List (Pos × Kind) :=
  ([Kind.underW, .underC, .overW, .leak, .tempW, .tempC, .imbalance, .missing, .sensorFault,
    .batteryLow].filter fun k => hasKind (after.pos p).live k && !hasKind (before.pos p).live k).map fun k => (p, k)

/-- A kind judged by its two tests: not live, it becomes live where its set test holds; live, it stops being
live where its clear test holds (R113). -/
def JudgedBy (live after : Bool) (set clear : Prop) : Prop :=
  (live = false → (after = true ↔ set)) ∧ (live = true → (after = false ↔ clear))

/-- The walk's advance past its head `h` by a trigger of sensor `id`, once the sample has landed: TEACH
PROGRESS on both ports and, where no position is left, TEACH END with outcome COMPLETE (R139, R142, R143). -/
def State.WalkShown (landed u : State) (t : TeachSession) (h : Pos) (rest : List Pos) (id : SensorId)
    (caseNo : Nat) : Prop :=
  ∃ progressed : State,
    progressed = State.raisedOnBoth
      { landed with
        teach := some { t with
          queue := rest, taught := t.taught ++ [h], count := min 255 (t.count + 1)
          stepDeadline := if rest = [] then t.stepDeadline else landed.tick + 1200#24 } }
      3 3 0x73#8 (fun _ => [byteOf h.val] ++ be32 id ++
        [byteOf (32 * caseNo + rest.length % 32), byteOf (min 255 (t.count + 1)), optPos rest.head?]) ∧
    u = State.recomputeWarn
      (if rest = [] then
        { progressed.raisedOnBoth 3 3 0x76#8 (fun _ => [0, byteOf (min 255 (t.count + 1))]) with
          teach := none, grant := { landed.grant with idleTimer := some landed.tick } }
       else progressed)

/-- The state once a sample has landed in the state `ready` as it would without a session, the session and the
WARN level of `s` still standing (R136, R137, R138). -/
def State.LandedFrom (s ready : State) (d : Delivery) : State :=
  { ({ ready with teach := none } : State).deliver d with teach := s.teach, warn := s.warn }

/-- The state with sensor `id` moved to the head `h`, from position `q` or from nowhere, before its sample lands:
`q` emptied, `h` WAITING with the sensor, the IMBALANCE they shared gone from their twin partners, the sensor no
longer foreign, the changed marks set (R36, R138, R150). -/
structure State.ReadyForSensor (s ready : State) (h : Pos) (q : Option Pos) (id : SensorId) : Prop where
  frame : ready = { s with positions := ready.positions, foreign := ready.foreign, grant := ready.grant }
  head : ready.pos h = { Position.empty with
    sensor := some id, state := .waiting, deadline := some (s.tick + 6000#24) }
  left : ∀ p, q = some p → ready.pos p = Position.empty
  others : ∀ p, p ≠ h → q ≠ some p → ready.pos p = { s.pos p with
    live := if p = partner h ∨ q = some (partner p) then (s.pos p).live &&& ~~~ kindMask .imbalance
      else (s.pos p).live }
  foreign : ready.foreign = s.foreign.filter fun e => e.id != id
  grant : ready.grant = { s.grant with
    marks := (match q with
      | some p => s.grant.marks.set (if inTruck p = true then .t else .l) true
      | none => s.grant.marks).set (if inTruck h = true then .t else .l) true }

/-- Positions that stop existing have left the walk's queue and taught set: a new head has a fresh step
deadline, and an emptied queue has ended the session (R141). -/
def State.LeftWalk (s u : State) (gone : Pos → Bool) : Prop :=
  (s.teach = none → u.teach = none) ∧
  ∀ t queue, s.teach = some t → queue = t.queue.filter (fun p => !gone p) →
    (queue = [] → u.teach = none) ∧
    (queue ≠ [] → u.teach = some
      { t with
        queue := queue, taught := t.taught.filter fun p => !gone p
        stepDeadline := if queue.head? = t.queue.head? then t.stepDeadline else s.tick + 1200#24 })

/-- What the ports are raised where positions leave the walk: TEACH END with outcome COMPLETE where the
session has ended, else nothing (R141, R142). -/
def State.LeftWalkShown (s u : State) (gone : Pos → Bool) : Prop :=
  (s.teach = none → u.ports = s.ports) ∧
  ∀ t, s.teach = some t → u.ports =
    if t.queue.filter (fun p => !gone p) = [] then
      (s.raisedOnBoth 3 3 0x76#8 fun _ => [0, byteOf t.count]).ports
    else s.ports

/-! ### Lines, merging, foreign sensors (chapters 1 to 3) -/

/-- One line outside a frame has no timer and an empty store, and never holds a complete frame (R5 to R8,
section 1.1). -/
structure Line.Lawful (x : Line) : Prop where
  timer : x.gapTimer = none ↔ x.assembly = .hunt
  store : x.assembly ≠ .body → x.store = []
  short : x.store.length < Config.bodyBytes

/-- Every line is lawful, and all are in HUNT while STARTING (R4). -/
def State.LinesLaw (s : State) : Prop :=
  ∀ i, (s.line i).Lawful ∧ (s.phase = .starting → (s.line i).assembly = .hunt)

/-- The ranges of the fields of a Merge Buffer entry (R17). -/
structure MergeEntry.Lawful (e : MergeEntry) : Prop where
  id : validId e.id = true
  lines : e.heard.lineMask ≠ 0
  frames : e.heard.frameSet ≠ 0
  count : 1 ≤ e.heard.copyCount ∧ e.heard.copyCount ≤ Config.copyCountMax

/-- Two entries have different keys (R17). -/
def MergeEntry.keyDiffers (e f : MergeEntry) : Prop := ¬ (e.id = f.id ∧ e.seq = f.seq)

/-- The Merge Buffer holds at most 12 entries, no two with the same key (R17). -/
structure State.MergeLaw (s : State) : Prop where
  room : s.merge.length ≤ Config.mergeCapacity
  keys : s.merge.Pairwise MergeEntry.keyDiffers
  entries : ∀ e ∈ s.merge, e.Lawful

/-- The Foreign Sensor List holds at most 8 entries, no two with the same ID, none whose ID is assigned to
a position (R44). -/
structure State.ForeignLaw (s : State) : Prop where
  room : s.foreign.length ≤ Config.foreignCapacity
  distinct : s.foreign.Pairwise fun e f => e.id ≠ f.id
  foreign : ∀ e ∈ s.foreign, ∀ p, (s.pos p).sensor ≠ some e.id
  hits : ∀ e ∈ s.foreign, 1 ≤ e.hits ∧ e.hits ≤ 255

/-! ### Identities and position states (R32, R34, R35, R117) -/

/-- No sensor ID is at two positions, and each is a valid ID at a position that exists (R32, R35). -/
structure State.IdentityLaw (s : State) : Prop where
  valid : ∀ p id, (s.pos p).sensor = some id → validId id = true
  present : ∀ p, (s.pos p).sensor.isSome = true → s.posExists p = true
  distinct : ∀ p q id, (s.pos p).sensor = some id → (s.pos q).sensor = some id → p = q

/-- What the state of a position says of its other fields (R33, R34, R81, R117). -/
structure Position.Lawful (x : Position) : Prop where
  unassigned : x.state = .unassigned → x = Position.empty
  assigned : x.state ≠ .unassigned → x.sensor.isSome = true
  deadline : x.deadline.isSome = true ↔ x.state = .waiting ∨ x.state = .active
  held : x.beforeHold.isSome = true ↔ x.state = .held
  before : x.beforeHold = none ∨ x.beforeHold = some .waiting ∨ x.beforeHold = some .active ∨
    x.beforeHold = some .missing
  remaining : x.remaining.isSome = true ↔ x.beforeHold = some .waiting ∨ x.beforeHold = some .active
  quiet : x.state ≠ .active → x.state ≠ .missing → x.live = 0
  frozen : x.state = .missing → hasKind x.live .imbalance = false
  alive : x.state ≠ .missing → hasKind x.live .missing = false
  sampled : x.state = .active ∨ x.beforeHold = some .active → x.sample.isSome = true

/-- Every position is lawful; a position is DETACHED exactly when it is a trailer position with a sensor
while the trailer is absent (R34, R36, R49, R50). -/
structure State.PositionLaw (s : State) : Prop where
  lawful : ∀ p, (s.pos p).Lawful
  detached : ∀ p, (s.pos p).state = .detached ↔
    inTruck p = false ∧ (s.pos p).sensor.isSome = true ∧ s.trailerPresent = false

/-- A port's capture record is present exactly when its latched set is not empty (R119). -/
def State.CaptureLaw (s : State) : Prop :=
  ∀ p port, ((s.pos p).capture.get port).isSome = true ↔ (s.pos p).latched.get port ≠ 0

/-! ### The lamp, the profile stack (R98, R125) -/

/-- The WARN level is that of the counted kinds, and the line is high in STEADY and low in OFF (R125). -/
structure State.LampLaw (s : State) : Prop where
  level : s.warn.level = levelOf s.counted
  steady : s.warn.level = .steady → s.warn.high = true
  dark : s.warn.level = .off → s.warn.high = false

/-- The Profile Stack holds 1 to 3 entries, and a RESET entry only at the bottom (R98). -/
structure State.StackLaw (s : State) : Prop where
  depth : 1 ≤ s.stack.length ∧ s.stack.length ≤ Config.stackCapacity
  bottom : ∀ e ∈ s.stack.tail, e.origin ≠ .reset

/-! ### Values in their ranges (R31, R58, R93, R156) -/

/-- The targets of an axle (R31). -/
structure Axle.Lawful (x : Axle) : Prop where
  unladen : 100 ≤ x.unladen ∧ x.unladen ≤ 1200
  laden : 100 ≤ x.laden ∧ x.laden ≤ 1200

/-- The fields of a profile record (R93). -/
structure Profile.Lawful (x : Profile) : Prop where
  uw : 500 ≤ x.uw ∧ x.uw ≤ 990
  uc : 400 ≤ x.uc ∧ x.uc ≤ 980
  ow : 1010 ≤ x.ow ∧ x.ow ≤ 1500
  hyst : x.hyst ≤ 50
  tw : 40 ≤ x.tw ∧ x.tw ≤ 150
  tc : 45 ≤ x.tc ∧ x.tc ≤ 160
  th : 1 ≤ x.th ∧ x.th ≤ 20
  ib : 20 ≤ x.ib ∧ x.ib ≤ 300
  lk : 5 ≤ x.lk ∧ x.lk ≤ 200

/-- The settings of section P (R63, R126, R156). -/
structure Settings.Lawful (x : Settings) : Prop where
  tref : -10 ≤ x.tref ∧ x.tref ≤ 40
  period : 2 ≤ x.flashPeriod ∧ x.flashPeriod ≤ 50
  width : 1 ≤ x.flashWidth ∧ x.flashWidth ≤ 50
  reportA : 1 ≤ x.reportPeriod.a ∧ x.reportPeriod.a ≤ 50
  reportB : 1 ≤ x.reportPeriod.b ∧ x.reportPeriod.b ≤ 50

/-- The vehicle context (R58). -/
structure Context.Lawful (x : Context) : Prop where
  load : x.load ≤ 100
  ambient : 60 ≤ x.ambient ∧ x.ambient ≤ 110

/-- Every value that is stored or held within limits is within them (R31, R58, R93, R156). -/
structure State.RangeLaw (s : State) : Prop where
  axles : ∀ a, (s.axle a).Lawful
  profiles : ∀ i, (s.profile i).Lawful
  settings : s.settings.Lawful
  context : s.context.Lawful

/-- No ABSENT axle is lifted (R60, R62). While STARTING no axle is lifted (R58). -/
structure State.LiftLaw (s : State) : Prop where
  absent : ∀ a, s.lifted a = true → (s.axle a).kind ≠ .absent
  starting : s.phase = .starting → ∀ a, s.lifted a = false

/-! ### Teach session, grant, ports (chapters 8, 9, 11) -/

/-- What holds of a teach session while it exists (R129). -/
structure State.SessionLawful (s : State) (t : TeachSession) : Prop where
  nonempty : t.queue ≠ []
  queueOnce : t.queue.Nodup
  taughtOnce : t.taught.Nodup
  apart : ∀ p ∈ t.queue, p ∉ t.taught
  existing : ∀ p ∈ t.queue ++ t.taught, s.posExists p = true
  coupled : ∀ p ∈ t.queue, inTruck p = true ∨ s.trailerPresent = true
  count : t.count ≤ 255

/-- The session, if there is one, is lawful; there is none while STARTING (R129). -/
structure State.TeachLaw (s : State) : Prop where
  session : ∀ t, s.teach = some t → s.SessionLawful t
  starting : s.phase = .starting → s.teach = none

/-- The walk has moved past its head `h`: the next head has a fresh step deadline, or the session has ended
and the idle timer runs (R139, R142). -/
def State.WalkAdvanced (s : State) (t : TeachSession) (h : Pos) (rest : List Pos) (u : State) : Prop :=
  (rest ≠ [] → u.grant.idleTimer = s.grant.idleTimer ∧ u.teach = some
    { owner := t.owner, queue := rest, taught := t.taught ++ [h], stepDeadline := s.tick + 1200#24,
      count := min 255 (t.count + 1) }) ∧
  (rest = [] → u.grant.idleTimer = some s.tick ∧ u.teach = none)

/-- The grant record at every moment (R129, R145, R146, R147, R151): no port waits twice or while it
holds; FREE has no waiter; marks, idle timer and session belong to a tenure, the timer running exactly
while there is no session; SAVING has a section to save, and no other state has. -/
structure State.GrantLaw (s : State) : Prop where
  once : s.grant.waiting.Nodup
  holder : ∀ p, s.grant.state = .held p → p ∉ s.grant.waiting
  free : s.grant.state = .free → s.grant.waiting = []
  marks : (∀ p, s.grant.state ≠ .held p) → s.grant.marks = .all false
  timer : s.grant.idleTimer.isSome = true ↔ (∃ p, s.grant.state = .held p) ∧ s.teach = none
  owner : ∀ t, s.teach = some t → s.grant.state = .held t.owner
  saving : s.grant.state = .saving ↔ s.grant.toSave ≠ []
  starting : s.phase = .starting → s.grant.state = .free

/-- What holds of a port controller (R172, R177): at most 16 frames queued, at most one of them in
transmission, the error count at most 255, and nothing queued and no timer running in BUS-OFF. -/
structure PortCtl.Lawful (c : PortCtl) : Prop where
  room : c.queue.length ≤ Config.queueCapacity
  one : (c.queue.filter (·.sending)).length ≤ 1
  errors : c.errors ≤ Config.errorMax
  silent : c.mode ≠ .active → c.queue = [] ∧ c.periodDue = none ∧ c.errors = 0

/-- Both port controllers are lawful. -/
def State.PortsLaw (s : State) : Prop := ∀ port, (s.port port).Lawful

end Sys2Proof.Machine
end

