-- ==== Sys2Proof/Certificates/Slice0/Obligations.lean ====
section
/-! DEFINITION. The statements for the provers, in the order of OBLIGATIONS.json. -/

open Sys2Proof Sys2Proof.Machine

/-! ### Steps -/

/-- O1. A step with a command in front runs that command on the rest of the queue. With none, time passes
(the model's choice, log 1). -/
def Obligations.StepRunsFrontCommandOrIdles : Prop :=
  (∀ (c : Instr) (rest : List Instr) (s : State),
    step { s with pending := c :: rest } = exec c { s with pending := rest }) ∧
  (∀ s : State, s.pending = [] → s.dueEvents = [] → step s = .next { s with tick := s.tick + 1 }) ∧
  (∀ s : State, s.pending = [] → s.dueEvents ≠ [] → step s = .next { s with pending := s.dueEvents })

/-- O2. Every command of the part completes in every state and leaves the queue of commands alone. -/
def Obligations.EveryCommandCompletes : Prop :=
  ∀ (c : Instr) (s : State), c.wellFormed = true → ∃ t : State, exec c s = .next t ∧ t.pending = s.pending

/-- O3. Every law of the manual holds right after reset (the values at reset that the spec leaves open are
those of log 6, 8 and 9). -/
def Obligations.ResetMeetsEveryLaw : Prop :=
  State.reset.LinesLaw ∧ State.reset.MergeLaw ∧ State.reset.ForeignLaw ∧ State.reset.IdentityLaw ∧
    State.reset.PositionLaw ∧ State.reset.CaptureLaw ∧ State.reset.LampLaw ∧ State.reset.StackLaw ∧
    State.reset.RangeLaw ∧ State.reset.LiftLaw ∧ State.reset.TeachLaw ∧ State.reset.GrantLaw ∧
    State.reset.PortsLaw

/-! ### Reset, start-up, saving (chapter 10) -/

/-- O4. DEVICE_RESET: every volatile value at reset, tick 0, STARTING; the store kept but for the section
whose turn to be written it was, which stands as R164 says. The model's choices in it: axles, profiles, settings,
revision, trailer-present, body state and DEFAULTED flags while STARTING (log 9), the flash phase start (log 21),
the operands and the image of a cut section (log 10, log 11), the numbers of the gap timers' runs going on (log 33). -/
def Obligations.DeviceResetRestartsAndKeepsStore : Prop :=
  ∀ (straps : BitVec 2) (cut : SaveCut) (s : State), ∃ t : State, exec (.deviceReset straps cut) s = .next t ∧
    t = { State.reset with
          pending := s.pending, straps := straps, trl := s.trl, body := s.body, lines := t.lines, store := t.store } ∧
    (∀ i, t.line i = { assembly := .hunt, store := [], gapTimer := none, gapRuns := (s.line i).gapRuns
                       framing := 0, check := 0, crc := 0, ident := 0 }) ∧
    (s.phase = .starting ∨ s.grant.state ≠ .saving → t.store = s.store) ∧
    (∀ n rest, s.phase = .running → s.grant.state = .saving → s.grant.toSave = n :: rest →
      (∀ m, m ≠ n → t.store.get m = s.store.get m) ∧
      (cut = .notReached → t.store = s.store) ∧
      (cut = .unmarked → (t.store.get n).marker ≠ 0xA5#8) ∧
      (cut = .marked true → t.store.get n = s.sectionImage n) ∧
      (cut = .marked false → crc16 (t.store.get n).image ≠ (t.store.get n).crc))

/-- O5. END_OF_STARTING: the part RUNNING, with the sections, IDs, inputs, grant, stack and rotations as
the end of STARTING sets them (R35, R57, R111, R160, R161, R175). With the body up and a tipping profile named, the
BODY entry is pushed and STACK CHANGED queued on both ports (R109, R111, R185); the WARN output is low (R128). -/
def Obligations.EndOfStartingLoadsTheStore : Prop :=
  ∀ s : State, s.phase = .starting → ∃ t : State, exec .endOfStarting s = .next t ∧
    t.phase = .running ∧ t.tick = s.tick ∧ t.straps = s.straps ∧ t.store = s.store ∧
    t.lines = s.lines ∧ t.merge = s.merge ∧ t.context = s.context ∧ t.teach = s.teach ∧
    t.trl = s.trl ∧ t.body = s.body ∧ t.pending = s.pending ∧
    t.trailerPresent = s.trl ∧ t.trlTimer = none ∧ t.bodyTimer = none ∧
    (t.bodyState = .raised ↔ s.body = true) ∧ t.foreign = [] ∧ t.warn.level = .off ∧
    t.grant.state = .free ∧ t.grant.waiting = [] ∧ t.grant.idleTimer = none ∧
    t.grant.marks = .all false ∧ t.grant.toSave = [] ∧ t.grant.truckLock = s.grant.truckLock ∧
    (t.flags.t.defaulted = true ↔ checkSection readTableImage s.store.t = none) ∧
    (t.flags.l.defaulted = true ↔ checkSection readTableImage s.store.l = none) ∧
    (t.flags.p.defaulted = true ↔ checkSection readSettingsSection s.store.p = none) ∧
    t.flags.t.writeFailed = s.flags.t.writeFailed ∧ t.flags.l.writeFailed = s.flags.l.writeFailed ∧
    t.flags.p.writeFailed = s.flags.p.writeFailed ∧
    (∀ a : AxleNo, t.axle a =
      ((((checkSection readTableImage s.store.t).getD TableImage.factory).axles ++
        ((checkSection readTableImage s.store.l).getD TableImage.factory).axles)[a.val]?).getD Axle.factory) ∧
    (∀ i : ProfileNo, t.profile i =
      (((checkSection readSettingsSection s.store.p).getD SettingsImage.factory).profiles[i.val]?).getD
        Profile.default) ∧
    t.settings = ((checkSection readSettingsSection s.store.p).getD SettingsImage.factory).settings ∧
    t.grant.revision = ((checkSection readSettingsSection s.store.p).getD SettingsImage.factory).revision ∧
    (∀ (p : Pos) (id : SensorId), (t.pos p).sensor = some id ↔
      (((checkSection readTableImage s.store.t).getD TableImage.factory).ids ++
        ((checkSection readTableImage s.store.l).getD TableImage.factory).ids)[p.val]? = some (some id) ∧
      validId id = true ∧ t.posExists p = true ∧ ∀ q : Pos, q.val < p.val → (t.pos q).sensor ≠ some id) ∧
    (∀ p : Pos, (t.pos p).sensor = none → t.pos p = Position.empty) ∧
    (∀ (p : Pos) (id : SensorId), (t.pos p).sensor = some id → t.pos p =
      { Position.empty with
        sensor := some id
        state := if inTruck p = true ∨ s.trl = true then .waiting else .detached
        deadline := if inTruck p = true ∨ s.trl = true then some (s.tick + 6000#24) else none }) ∧
    (s.stack = [{ index := 0, origin := .reset }] →
      t.stack = if s.body = true then
          match t.settings.tipping with
          | some i => [{ index := 0, origin := .reset }, { index := i, origin := .body }]
          | none => [{ index := 0, origin := .reset }]
        else [{ index := 0, origin := .reset }]) ∧
    (∀ port : Port, (t.port port).nextAxle = 0 ∧ (t.port port).mode = (s.port port).mode ∧
      (t.port port).errors = (s.port port).errors ∧
      ((s.port port).mode = .active → (t.port port).periodDue =
        some (s.tick + BitVec.ofNat 24 (t.settings.reportPeriod.get port))) ∧
      ((s.port port).mode ≠ .active → (t.port port).periodDue = none) ∧
      (s.body = false ∨ t.settings.tipping = none →
        (t.port port).queue = (s.port port).queue ∧ (t.port port).overflow = (s.port port).overflow) ∧
      (∀ (i : ProfileNo) (raised : PortCtl), s.stack = [{ index := 0, origin := .reset }] → s.body = true →
        t.settings.tipping = some i →
        raised = (s.port port).enqueue
          { ident := (3#3 ++ 2#2 ++ 0x62#8 ++ 0xFF#8 ++ (0x70#8 + s.straps.setWidth 8) : BitVec 29)
            data := [byteOf (2 + 4 * 3 + 64), 0xFF, 2, optEntry (some { index := 0, origin := .reset }),
              optEntry (some { index := i, origin := .body }), 0xFF]
            sending := false } →
        (t.port port).queue = raised.queue ∧ (t.port port).overflow = raised.overflow)) ∧
    ((s.warn.level = .off → s.warn.high = false) → t.warn.high = false)

/-- O6. SECTION_SAVE: the section written or, after two failed verifies, erased; its flags; and with the last
section the handover of R152. -/
def Obligations.SectionSaveWritesThenHandsOver : Prop :=
  ∀ (r : SaveResult) (n : SectionName) (rest : List SectionName) (s : State),
    s.grant.state = .saving → s.grant.toSave = n :: rest → ∃ t : State, exec (.sectionSave r) s = .next t ∧
    t = { s with store := t.store, flags := t.flags, grant := t.grant, ports := t.ports } ∧
    t.store = s.store.set n (if r = .failedTwice then erasedSection n else s.sectionImage n) ∧
    t.flags = s.flags.set n
      (if r = .failedTwice then { s.flags.get n with writeFailed := true }
       else { defaulted := false, writeFailed := false }) ∧
    (rest ≠ [] → t.grant = { s.grant with toSave := rest } ∧ t.ports = s.ports) ∧
    (rest = [] → s.grant.waiting = [] →
      t.grant = { s.grant with toSave := [], state := .free } ∧ t.ports = s.ports) ∧
    (∀ p waiting, rest = [] → s.grant.waiting = p :: waiting →
      t.grant = { s.grant with
        toSave := [], state := .held p, waiting := waiting, marks := .all false, idleTimer := some s.tick } ∧
      t.ports = (s.notice 0x71#8 [byteOf (portCode p)]).ports)

/-! ### Receiver lines (chapter 1) -/

/-- O7. A byte received in HUNT or LENGTH (R5, R6); characters with a low stop bit, and all characters
while STARTING, change nothing. Where the gap timer starts or restarts, its next run begins (R8; the model's numbers
of the runs, log 33). -/
def Obligations.ByteInHuntAndLength : Prop :=
  ∀ (i : Fin 4) (v : Byte) (s : State),
    (s.phase = .running → (s.line i).assembly = .hunt → v = 0x7E#8 →
      exec (.receivedByte i true v) s = .next (s.setLine i
        { s.line i with
          assembly := .length, store := [], gapTimer := some s.tick, gapRuns := (s.line i).gapRuns + 1 })) ∧
    (s.phase = .running → (s.line i).assembly = .hunt → v ≠ 0x7E#8 →
      exec (.receivedByte i true v) s = .next s) ∧
    (s.phase = .running → (s.line i).assembly = .length → v = 0x0C#8 →
      exec (.receivedByte i true v) s = .next (s.setLine i
        { s.line i with
          assembly := .body, store := [], gapTimer := some s.tick, gapRuns := (s.line i).gapRuns + 1 })) ∧
    (s.phase = .running → (s.line i).assembly = .length → v = 0x7E#8 →
      exec (.receivedByte i true v) s = .next (s.setLine i
        { s.line i with gapTimer := some s.tick, gapRuns := (s.line i).gapRuns + 1 })) ∧
    (s.phase = .running → (s.line i).assembly = .length → v ≠ 0x0C#8 → v ≠ 0x7E#8 →
      exec (.receivedByte i true v) s = .next (s.setLine i
        { s.line i with
          assembly := .hunt, store := [], gapTimer := none
          framing := if (s.line i).framing = 0xFFFF#16 then 0xFFFF#16 else (s.line i).framing + 1 })) ∧
    exec (.receivedByte i false v) s = .next s ∧
    (s.phase = .starting → ∀ stopHigh, exec (.receivedByte i stopHigh v) s = .next s)

/-- O8. A byte received in BODY: stored, or completing the frame, whose first failing check is counted, and
which otherwise is decoded into the copy that R13 gives (R7, R9 to R14, R179). Where the gap
timer restarts, its next run begins (R8; log 33). -/
def Obligations.ByteInBodyAndValidation : Prop :=
  ∀ (i : Fin 4) (v : Byte) (s : State), s.phase = .running → (s.line i).assembly = .body →
    ((s.line i).store.length + 1 < 12 →
      exec (.receivedByte i true v) s = .next (s.setLine i
        { s.line i with
          store := (s.line i).store ++ [v], gapTimer := some s.tick, gapRuns := (s.line i).gapRuns + 1 })) ∧
    ∀ (bytes : List Byte) (x : Line), bytes = (s.line i).store ++ [v] → bytes.length = 12 →
      x = { s.line i with assembly := .hunt, store := [], gapTimer := none } →
      (((bytes.map (·.toNat)).sum + 12) % 256 ≠ 0 →
        exec (.receivedByte i true v) s = .next (s.setLine i
          { x with check := if x.check = 0xFFFF#16 then 0xFFFF#16 else x.check + 1 })) ∧
      (((bytes.map (·.toNat)).sum + 12) % 256 = 0 → crc8 (bytes.take 9) ≠ bytes.getD 9 0 →
        exec (.receivedByte i true v) s = .next (s.setLine i
          { x with crc := if x.crc = 0xFFFF#16 then 0xFFFF#16 else x.crc + 1 })) ∧
      (((bytes.map (·.toNat)).sum + 12) % 256 = 0 → crc8 (bytes.take 9) = bytes.getD 9 0 →
        ((bytes.getD 4 0).toNat / 64 = 3 ∨ bytes.take 4 = [0, 0, 0, 0] ∨
          bytes.take 4 = [0xFF, 0xFF, 0xFF, 0xFF]) →
        exec (.receivedByte i true v) s = .next (s.setLine i
          { x with ident := if x.ident = 0xFFFF#16 then 0xFFFF#16 else x.ident + 1 })) ∧
      (((bytes.map (·.toNat)).sum + 12) % 256 = 0 → crc8 (bytes.take 9) = bytes.getD 9 0 →
        (bytes.getD 4 0).toNat / 64 ≠ 3 → bytes.take 4 ≠ [0, 0, 0, 0] →
        bytes.take 4 ≠ [0xFF, 0xFF, 0xFF, 0xFF] →
        ∃ c : Copy, exec (.receivedByte i true v) s = .next ((s.setLine i x).takeCopy c) ∧
          be32 c.id = bytes.take 4 ∧ c.seq.toNat = (bytes.getD 4 0).toNat % 16 ∧
          c.frameIndex.toNat = (bytes.getD 4 0).toNat / 16 % 4 ∧
          c.content.kind.code = (bytes.getD 4 0).toNat / 64 ∧
          c.content.motion = (bytes.getD 5 0).getLsbD 0 ∧
          c.content.batteryLow = (bytes.getD 5 0).getLsbD 1 ∧
          c.content.sensorFault = (bytes.getD 5 0).getLsbD 2 ∧
          c.content.pressure = (if (bytes.getD 6 0).toNat < 4 ∧
              (bytes.getD 6 0).toNat * 256 + (bytes.getD 7 0).toNat ≠ 1023 then
            some (2 * ((bytes.getD 6 0).toNat * 256 + (bytes.getD 7 0).toNat)) else none) ∧
          c.content.temperature = (if (bytes.getD 8 0).toNat = 255 then none
            else some (((bytes.getD 8 0).toNat : Int) - 50)) ∧
          c.rssi = bytes.getD 10 0 ∧ c.line = i)

/-- O9. The two forms of the telegram check agree for every telegram, and both CRCs give the manual's check
values (R11, R158). -/
def Obligations.CrcFormsAgree : Prop :=
  (∀ (bytes : List Byte) (c : Byte), crc8 (bytes ++ [c]) = 0 ↔ crc8 bytes = c) ∧
  crc8 [0x31, 0x32, 0x33, 0x34, 0x35, 0x36, 0x37, 0x38, 0x39] = 0xF4#8 ∧
  crc16 [0x31, 0x32, 0x33, 0x34, 0x35, 0x36, 0x37, 0x38, 0x39] = 0x29B1#16

/-! ### Merging (chapter 2) -/

/-- O10. A copy joins its key's entry, opens an entry, or evicts the oldest, which is delivered first
(R18 to R23, R26). -/
def Obligations.CopyJoinsOpensOrEvicts : Prop :=
  ∀ (c : Copy) (s : State), s.MergeLaw →
    (∀ e ∈ s.merge, e.id = c.id → e.seq = c.seq →
      s.takeCopy c = { s with merge := s.merge.map fun f =>
        if f.id = c.id ∧ f.seq = c.seq then
          { id := e.id, seq := e.seq, openingTick := e.openingTick
            content := if e.heard.bestRssi < c.rssi then c.content else e.content
            heard :=
              { bestRssi := if e.heard.bestRssi < c.rssi then c.rssi else e.heard.bestRssi
                bestLine := if e.heard.bestRssi < c.rssi then c.line else e.heard.bestLine
                lineMask := e.heard.lineMask ||| (1#4 <<< c.line.val)
                frameSet := e.heard.frameSet ||| (1#4 <<< c.frameIndex.toNat)
                copyCount := if e.heard.copyCount = 16 then 16 else e.heard.copyCount + 1
                conflict := e.heard.conflict || decide (c.content ≠ e.content) } }
        else f }) ∧
    (∀ opened : MergeEntry,
      opened =
        { id := c.id, seq := c.seq, content := c.content, openingTick := s.tick
          heard :=
            { bestRssi := c.rssi, bestLine := c.line, lineMask := 1#4 <<< c.line.val,
              frameSet := 1#4 <<< c.frameIndex.toNat, copyCount := 1, conflict := false } } →
      (∀ e ∈ s.merge, ¬ (e.id = c.id ∧ e.seq = c.seq)) →
      (s.merge.length < 12 → s.takeCopy c = { s with merge := s.merge ++ [opened] }) ∧
      (∀ e rest, s.merge = e :: rest → s.merge.length = 12 →
        s.takeCopy c =
          { ({ s with merge := rest } : State).deliver
              { id := e.id, seq := e.seq, content := e.content, heard := e.heard, tick := e.openingTick } with
            merge := rest ++ [opened] }))

/-- O11. GAP_EXPIRY abandons the frame, with a FRAMING error, where the run of the gap timer that it names goes on
(R8; how it names it: log 33). With a byte at the same moment: the byte first, it is taken and there is no expiry;
the expiry first, the frame is abandoned and the byte taken in HUNT. The expiry of the run that a byte starts, waiting
behind that byte, abandons the frame. WINDOW_EXPIRY removes the oldest entry and hands over the delivery built from it
(R25, R26). Expiries that are not due do nothing (log 4, log 5). -/
def Obligations.GapAndWindowExpiries : Prop :=
  (∀ (i : Fin 4) (n : Nat) (s : State),
    ((s.line i).gapTimer ≠ none → n = (s.line i).gapRuns →
      exec (.gapExpiry { line := i, number := n }) s = .next (s.setLine i
        { s.line i with
          assembly := .hunt, store := [], gapTimer := none
          framing := if (s.line i).framing = 0xFFFF#16 then 0xFFFF#16 else (s.line i).framing + 1 })) ∧
    ((s.line i).gapTimer = none ∨ n ≠ (s.line i).gapRuns →
      exec (.gapExpiry { line := i, number := n }) s = .next s)) ∧
  (∀ (i : Fin 4) (v : Byte) (rest : List Instr) (now next : Instr) (framing : Word16) (s t u : State),
    s.phase = .running → now = .gapExpiry { line := i, number := (s.line i).gapRuns } →
    next = .gapExpiry { line := i, number := (s.line i).gapRuns + 1 } →
    framing = (if (s.line i).framing = 0xFFFF#16 then 0xFFFF#16 else (s.line i).framing + 1) →
    step s = .next t → step t = .next u →
    (s.pending = .receivedByte i true v :: now :: rest → (s.line i).assembly ≠ .hunt →
      u = { t with pending := rest } ∧
      ((s.line i).assembly = .length ∧ v = 0x0C#8 ∨
          (s.line i).assembly = .body ∧ (s.line i).store.length + 1 < 12 →
        (u.line i).assembly = .body ∧ (u.line i).framing = (s.line i).framing ∧
          (u.line i).gapTimer = some s.tick)) ∧
    (s.pending = .receivedByte i true v :: next :: rest →
      (s.line i).assembly = .hunt ∧ v = 0x7E#8 ∨ (s.line i).assembly = .length ∧ (v = 0x0C#8 ∨ v = 0x7E#8) ∨
        (s.line i).assembly = .body ∧ (s.line i).store.length + 1 < 12 →
      u.line i = { s.line i with
        assembly := .hunt, store := [], gapTimer := none, gapRuns := (s.line i).gapRuns + 1, framing := framing }) ∧
    (s.pending = now :: .receivedByte i true v :: rest → (s.line i).gapTimer ≠ none →
      u.line i =
        if v = 0x7E#8 then { s.line i with
          assembly := .length, store := [], gapTimer := some s.tick, gapRuns := (s.line i).gapRuns + 1
          framing := framing }
        else { s.line i with assembly := .hunt, store := [], gapTimer := none, framing := framing })) ∧
  (∀ (id : SensorId) (seq : BitVec 4) (s : State),
    (∀ e rest, s.merge = e :: rest → e.id = id → e.seq = seq →
      exec (.windowExpiry id seq) s = .next (({ s with merge := rest } : State).deliver
        { id := e.id, seq := e.seq, content := e.content, heard := e.heard, tick := e.openingTick })) ∧
    ((∀ e rest, s.merge = e :: rest → ¬ (e.id = id ∧ e.seq = seq)) →
      exec (.windowExpiry id seq) s = .next s))

/-- O12. Only RECEIVED_BYTE, WINDOW_EXPIRY and DEVICE_RESET change the Merge Buffer (R29). -/
def Obligations.MergeBufferChangedByItsEventsOnly : Prop :=
  ∀ (c : Instr) (s t : State), exec c s = .next t →
    (∀ i stopHigh v, c ≠ .receivedByte i stopHigh v) → (∀ id seq, c ≠ .windowExpiry id seq) →
    (∀ straps cut, c ≠ .deviceReset straps cut) → t.merge = s.merge

/-! ### Deliveries (chapter 3) -/

/-- O13. A stale delivery, and one for a HELD or DETACHED position that no session takes, changes nothing
(R40, R41). -/
def Obligations.DroppedDeliveryChangesNothing : Prop :=
  ∀ (s : State) (d : Delivery) (p : Pos), s.IdentityLaw → s.LampLaw → (s.pos p).sensor = some d.id →
    (∀ sm, (s.pos p).sample = some sm → sm.seq = d.seq → sm.tick.saturated = false →
      (d.tick - sm.tick.tick).toNat < 300 → s.deliver d = s) ∧
    ((d.content.kind ≠ .trigger ∨ s.teach = none) →
      (s.pos p).state = .held ∨ (s.pos p).state = .detached → s.deliver d = s)

/-- O14. A delivery whose ID is at no position, and that no session takes, updates the Foreign Sensor List
alone (R39, R44, R45). -/
def Obligations.ForeignDeliveryUpdatesList : Prop :=
  ∀ (s : State) (d : Delivery), s.ForeignLaw → (∀ p, (s.pos p).sensor ≠ some d.id) →
    (d.content.kind ≠ .trigger ∨ s.teach = none) →
    (∀ e ∈ s.foreign, e.id = d.id →
      s.deliver d = { s with foreign :=
        { id := d.id, hits := if e.hits = 255 then 255 else e.hits + 1, rssi := d.heard.bestRssi,
          lineMask := d.heard.lineMask, tick := { tick := d.tick, saturated := false },
          motionSeen := e.motionSeen || d.content.motion } :: s.foreign.filter fun f => f.id != d.id }) ∧
    ((∀ e ∈ s.foreign, e.id ≠ d.id) →
      s.deliver d = { s with foreign :=
        { id := d.id, hits := 1, rssi := d.heard.bestRssi, lineMask := d.heard.lineMask,
          tick := { tick := d.tick, saturated := false }, motionSeen := d.content.motion } ::
          (if s.foreign.length < 8 then s.foreign else s.foreign.dropLast) })

/-- O15. A delivery accepted at a position: its sample, temperature, interval, deadline, Pc and leak figures;
the live sets that the tests of R74 leave there and at the twin partner, whose transitions are latched, the
position's first; an ALERT's forced report; and what is left unchanged (R42, R43, R64 to R66, R69, R70, R74,
R80 to R83, R115, R176). -/
def Obligations.AcceptedDeliveryResult : Prop :=
  ∀ (s : State) (d : Delivery) (p : Pos), s.IdentityLaw → (s.pos p).sensor = some d.id →
    stale (s.pos p) d = false → (d.content.kind ≠ .trigger ∨ s.teach = none) →
    (s.pos p).state = .waiting ∨ (s.pos p).state = .active ∨ (s.pos p).state = .missing →
    ∃ t : State, s.deliver d = t ∧ t = { s with positions := t.positions, warn := t.warn, ports := t.ports } ∧
      (∀ q, q ≠ p → q ≠ partner p → t.pos q = s.pos q) ∧
      (t.pos (partner p) = { s.pos (partner p) with
        live := (t.pos (partner p)).live, latched := (t.pos (partner p)).latched,
        capture := (t.pos (partner p)).capture }) ∧
      ((s.axle (axleOf p)).kind ≠ .twin → t.pos (partner p) = s.pos (partner p)) ∧
      (t.pos p).sensor = some d.id ∧ (t.pos p).state = .active ∧
      (t.pos p).sample = some
        { content := d.content, seq := d.seq, heard := d.heard,
          tick := { tick := d.tick, saturated := false } } ∧
      (t.pos p).lastTemp = (if d.content.temperature = none then (s.pos p).lastTemp
        else d.content.temperature) ∧
      (∀ captured : Option Nat,
        captured = (match (s.pos p).sample with
          | some sm => if (s.pos p).state = .active ∧ sm.content.motion = d.content.motion then
              some (max 50 (min 6000 (keptSpan sm.tick d.tick))) else none
          | none => none) →
        (t.pos p).intervalMoving = (if d.content.motion = true ∧ captured ≠ none then captured
          else (s.pos p).intervalMoving) ∧
        (t.pos p).intervalStationary = (if d.content.motion = false ∧ captured ≠ none then captured
          else (s.pos p).intervalStationary)) ∧
      (t.pos p).deadline = some (d.tick + BitVec.ofNat 24
        (match if d.content.motion = true then (t.pos p).intervalMoving
            else (t.pos p).intervalStationary with
          | some i => max 300 (min 18000 (4 * i))
          | none => if d.content.motion = true then 600 else 6000)) ∧
      (d.content.pressure = none → (t.pos p).pc = (s.pos p).pc ∧
        (t.pos p).leakHistory = (s.pos p).leakHistory ∧ (t.pos p).leakRate = (s.pos p).leakRate) ∧
      (∀ pabs, d.content.pressure = some pabs → ∃ pc,
        pc = coldPressure pabs
          (match d.content.temperature, (s.pos p).lastTemp with
            | some x, _ => x
            | none, some x => x
            | none, none => s.settings.tref) s.settings.tref s.context.ambient ∧
        (t.pos p).pc = some pc ∧ (t.pos p).leakHistory = leakAppend (s.pos p).leakHistory pc d.tick ∧
        (t.pos p).leakRate = leakRateOf (t.pos p).leakHistory) ∧
      (t.pos p).beforeHold = (s.pos p).beforeHold ∧ (t.pos p).remaining = (s.pos p).remaining ∧
      hasKind (t.pos p).live .missing = false ∧
      ∃ before tested latched : State,
        before = { s with positions := before.positions } ∧ (∀ q, q ≠ p → before.pos q = s.pos q) ∧
        before.pos p = { t.pos p with
          live := (s.pos p).live &&& ~~~ kindMask .missing
          latched := (s.pos p).latched, capture := (s.pos p).capture } ∧
        tested = { s with positions := tested.positions } ∧
        (∀ q, tested.pos q = { before.pos q with
          live := if q = p then before.testedLive p fun k => k != .missing
            else if q = partner p ∧ (s.axle (axleOf p)).kind = .twin then before.testedLive q fun k => k == .imbalance
            else (s.pos q).live }) ∧
        latched = tested.latchAll .sample (wentLive before tested p ++ wentLive before tested (partner p)) ∧
        t = State.recomputeWarn
          (if d.content.kind = .alert then latched.raisedOnBoth 2 2 0x60#8 fun port =>
              reportBytes p (latched.pos p) ((latched.pos p).latched.get port)
            else latched)

/-! ### Figures (chapter 4) -/

/-- O16. The cold-equivalent pressure is the formula of R65: q is the floor of (2N + D) / 2D, and Pc is q
less the ambient, clamped to 0 to 1500; with T equal to Tref it is Pabs less the ambient, clamped. -/
def Obligations.ColdPressureIsFormula : Prop :=
  ∀ (pabs : Nat) (t tref : Int) (ambient : Nat), -50 ≤ t →
    (∃ q : Int,
      2 * (t + 273) * q ≤ 2 * ((pabs : Int) * (tref + 273)) + (t + 273) ∧
      2 * ((pabs : Int) * (tref + 273)) + (t + 273) < 2 * (t + 273) * (q + 1) ∧
      (coldPressure pabs t tref ambient : Int) = max 0 (min 1500 (q - ambient))) ∧
    (t = tref → (coldPressure pabs t tref ambient : Int) = max 0 (min 1500 ((pabs : Int) - ambient)))

/-- O17. The target of an axle (R67) and the order of the three thresholds drawn from it (R68). -/
def Obligations.TargetAndThresholds : Prop :=
  (∀ (s : State) (a : AxleNo),
    (s.lifted a = true → s.target a = (s.axle a).unladen) ∧
    (s.lifted a = false → s.target a = (s.axle a).unladen +
      ((((s.axle a).laden : Int) - (s.axle a).unladen) * s.context.load).tdiv 100) ∧
    (s.lifted a = false → s.context.load = 0 → s.target a = (s.axle a).unladen) ∧
    (s.lifted a = false → s.context.load = 100 → s.target a = (s.axle a).laden) ∧
    (s.context.load ≤ 100 →
      min ((s.axle a).unladen : Int) (s.axle a).laden ≤ s.target a ∧
      s.target a ≤ max ((s.axle a).unladen : Int) (s.axle a).laden)) ∧
  (∀ (target : Int) (pr : Profile), 100 ≤ target → pr.Lawful → pr.uc < pr.uw →
    (thresholds target pr).lowWarning = (target * pr.uw).fdiv 1000 ∧
    (thresholds target pr).lowCritical = (target * pr.uc).fdiv 1000 ∧
    (thresholds target pr).highWarning = (target * pr.ow).fdiv 1000 ∧
    (thresholds target pr).lowCritical ≤ (thresholds target pr).lowWarning ∧
    (thresholds target pr).lowWarning < target ∧ target < (thresholds target pr).highWarning)

/-- O18. The leak history (R69) and the leak rate formed from its two ends (R70). -/
def Obligations.LeakHistoryAndRate : Prop :=
  (∀ (h : List LeakEntry) (pc : Nat) (t : Tick) (e : LeakEntry),
    e = { pc := pc, tick := { tick := t, saturated := false } } → h.length ≤ 4 →
    (h = [] → leakAppend h pc t = [e]) ∧
    (∀ newest, h.getLast? = some newest → 6000 < keptSpan newest.tick t → leakAppend h pc t = [e]) ∧
    (∀ newest, h.getLast? = some newest → keptSpan newest.tick t ≤ 6000 →
      leakAppend h pc t = if h.length = 4 then h.tail ++ [e] else h ++ [e])) ∧
  leakRateOf [] = none ∧ (∀ e, leakRateOf [e] = none) ∧
  (∀ (oldest newest : LeakEntry) (middle : List LeakEntry) (span : Nat),
    span = keptSpan oldest.tick newest.tick.tick →
    (span < 200 → leakRateOf (oldest :: (middle ++ [newest])) = none) ∧
    (200 ≤ span → newest.pc < oldest.pc →
      leakRateOf (oldest :: (middle ++ [newest])) =
        some (min 999 ((oldest.pc - newest.pc) * 600 / span))) ∧
    (200 ≤ span → oldest.pc ≤ newest.pc → leakRateOf (oldest :: (middle ++ [newest])) = some 0))

/-- O19. The twin difference is the same for both members, and is present exactly under the five conditions
of R72. -/
def Obligations.TwinDifferenceIsShared : Prop :=
  ∀ (s : State) (p : Pos),
    partner (partner p) = p ∧ axleOf (partner p) = axleOf p ∧
    (slotOf p = 0 → slotOf (partner p) = 1) ∧ (slotOf p = 2 → slotOf (partner p) = 3) ∧
    s.pairDiff (partner p) = s.pairDiff p ∧
    ((s.pairDiff p).isSome = true ↔
      (s.axle (axleOf p)).kind = .twin ∧ (s.pos p).state = .active ∧ (s.pos (partner p)).state = .active ∧
      (s.pos p).pc.isSome = true ∧ (s.pos (partner p)).pc.isSome = true ∧
      s.lifted (axleOf p) = false ∧ hasKind s.activeProfile.enable .imbalance = true) ∧
    (∀ a b d : Nat, (s.pos p).pc = some a → (s.pos (partner p)).pc = some b → s.pairDiff p = some d →
      (d : Int) = |(a : Int) - b|)

/-! ### Conditions, latches, lamp (chapter 7) -/

/-- O20. The tests of a position: the kinds chosen are judged and the others kept; a disabled kind is not live
after, and an enabled one is judged by the set test and the clear test of R113, with the missing inputs of R114.
No kind's two tests both hold (R93, R113, R114, R116). -/
def Obligations.ConditionTestsFollowHysteresis : Prop :=
  (∀ (s : State) (p : Pos) (which : Kind → Bool) (k : Kind),
    hasKind (s.testedLive p which) k =
      if which k = true then
        liveAfterTest s.activeProfile (thresholds (s.target (axleOf p)) s.activeProfile) (s.pairDiff p) (s.pos p) k
      else hasKind (s.pos p).live k) ∧
  (∀ (pr : Profile) (th : Thresholds) (diff : Option Nat) (x : Position) (k : Kind),
    hasKind pr.enable k = false → liveAfterTest pr th diff x k = false) ∧
  (∀ (pr : Profile) (th : Thresholds) (diff : Option Nat) (x : Position) (on live after : Kind → Bool),
    on = hasKind pr.enable → live = hasKind x.live → after = liveAfterTest pr th diff x →
    (x.pc = none → (on .underW = true → after .underW = false) ∧ (on .underC = true → after .underC = false) ∧
      (on .overW = true → after .overW = false)) ∧
    (∀ pc : Nat, x.pc = some pc →
      (on .underW = true →
        JudgedBy (live .underW) (after .underW) (pc < th.lowWarning) (th.lowWarning + pr.hyst ≤ pc)) ∧
      (on .underC = true →
        JudgedBy (live .underC) (after .underC) (pc < th.lowCritical) (th.lowCritical + pr.hyst ≤ pc)) ∧
      (on .overW = true →
        JudgedBy (live .overW) (after .overW) (th.highWarning < pc) (pc ≤ th.highWarning - pr.hyst))) ∧
    (on .leak = true → x.leakRate = none → after .leak = false) ∧
    (∀ rate, on .leak = true → x.leakRate = some rate →
      JudgedBy (live .leak) (after .leak) (pr.lk ≤ rate) (rate < pr.lk / 2)) ∧
    (x.sample.bind (·.content.temperature) = none →
      (on .tempW = true → after .tempW = live .tempW) ∧ (on .tempC = true → after .tempC = live .tempC)) ∧
    (∀ t, x.sample.bind (·.content.temperature) = some t →
      (on .tempW = true → JudgedBy (live .tempW) (after .tempW) (pr.tw ≤ t) (t ≤ pr.tw - pr.th)) ∧
      (on .tempC = true → JudgedBy (live .tempC) (after .tempC) (pr.tc ≤ t) (t ≤ pr.tc - pr.th))) ∧
    (on .imbalance = true → diff = none → after .imbalance = false) ∧
    (∀ d : Nat, on .imbalance = true → diff = some d →
      JudgedBy (live .imbalance) (after .imbalance) (pr.ib ≤ d) ((d : Int) < (pr.ib : Int) - pr.hyst)) ∧
    (∀ sm, x.sample = some sm →
      (on .sensorFault = true → (after .sensorFault = true ↔
        sm.content.pressure = none ∨ sm.content.temperature = none ∨ sm.content.sensorFault = true)) ∧
      (on .batteryLow = true → (after .batteryLow = true ↔ sm.content.batteryLow = true)))) ∧
  (∀ (pr : Profile) (th : Thresholds) (diff : Option Nat) (x : Position) (k : Kind), pr.Lawful →
    ¬ (setTest pr th diff x k = true ∧ clearTest pr th diff x k = true))

/-- O21. A transition latches its kind into both ports' sets, makes a capture where a set was empty, and
queues one ALARM EVENT on each port; a batch is taken one transition at a time (R120, R121). A re-evaluation
measures every ACTIVE position again, then tests them all against those figures, leaves every other position as
it is, and hands over the transitions, positions ascending and kinds in mask bit order (R64 to R66, R76, R77). -/
def Obligations.TransitionLatchesAndReports : Prop :=
  (∀ (s : State) (cause : AlarmCause) (p : Pos) (k : Kind) (ts : List (Pos × Kind)), ∃ t,
    s.latchAll cause ((p, k) :: ts) = t.latchAll cause ts ∧
    s.latchAll cause [(p, k)] = t ∧ t = { s with positions := t.positions, ports := t.ports } ∧
    (∀ q, q ≠ p → t.pos q = s.pos q) ∧
    (t.pos p = { s.pos p with latched := (t.pos p).latched, capture := (t.pos p).capture }) ∧
    (∀ port : Port,
      (t.pos p).latched.get port = ((s.pos p).latched.get port ||| (1#10 <<< k.bit)) ∧
      ((s.pos p).latched.get port = 0 → (t.pos p).capture.get port = some
        { kind := k, tick := s.tick, pc := (s.pos p).pc,
          temperature := (s.pos p).sample.bind (·.content.temperature) }) ∧
      ((s.pos p).latched.get port ≠ 0 → (t.pos p).capture.get port = (s.pos p).capture.get port) ∧
      t.port port = (s.port port).enqueue
        { ident := frameIdent (if k.severity = .critical then 1 else 2) 2 0x61#8 0xFF#8 s.address
          data := [byteOf p.val, byteOf (16 * cause.code + k.bit)] ++ be24 s.tick ++ optBe16 (s.pos p).pc ++
            [optTemp ((s.pos p).sample.bind (·.content.temperature))]
          sending := false })) ∧
  (∀ s : State, ∃ measured tested : State,
    measured = { s with positions := measured.positions } ∧
    (∀ p, (s.pos p).state ≠ .active → measured.pos p = s.pos p) ∧
    (∀ p, (s.pos p).state = .active → measured.pos p = { s.pos p with
      pc := match (s.pos p).sample with
        | none => (s.pos p).pc
        | some sm => match sm.content.pressure with
          | none => (s.pos p).pc
          | some pabs => some (coldPressure pabs
              (match sm.content.temperature, (s.pos p).lastTemp with
                | some x, _ => x
                | none, some x => x
                | none, none => s.settings.tref) s.settings.tref s.context.ambient) }) ∧
    tested = { s with positions := tested.positions } ∧
    (∀ p, (s.pos p).state ≠ .active → tested.pos p = s.pos p) ∧
    (∀ p, (s.pos p).state = .active → tested.pos p =
      { measured.pos p with live := measured.testedLive p fun k => k != .missing }) ∧
    s.reevaluate = tested.latchAll .reEvaluation ((List.finRange 32).flatMap (wentLive s tested)))

/-- O22. FLASH_PHASE: the pattern of the WARN line in FLASH, and nothing in STEADY or OFF (R127; the
exact ticks as "at least": log 21). -/
def Obligations.FlashPhaseFollowsPattern : Prop :=
  ∀ s : State,
    (s.warn.level ≠ .flash → exec .flashPhase s = .next s) ∧
    (s.warn.level = .flash → s.settings.flashPeriod ≤ (s.tick - s.warn.phaseStart).toNat →
      exec .flashPhase s = .next { s with warn := { s.warn with phaseStart := s.tick, high := true } }) ∧
    (s.warn.level = .flash → (s.tick - s.warn.phaseStart).toNat < s.settings.flashPeriod →
      s.settings.flashWidth ≤ (s.tick - s.warn.phaseStart).toNat →
      exec .flashPhase s = .next { s with warn := { s.warn with high := false } }) ∧
    (s.warn.level = .flash → (s.tick - s.warn.phaseStart).toNat < s.settings.flashPeriod →
      (s.tick - s.warn.phaseStart).toNat < s.settings.flashWidth → exec .flashPhase s = .next s)

/-! ### Supervision and inputs (chapters 3, 5 and 6) -/

/-- O23. DEADLINE_EXPIRY: the position falls MISSING with its live set frozen, IMBALANCE leaves the pair, and
MISSING is added, latched and captured where it is enabled (R85); a deadline that does not stand at the
counter's value does not expire (log 4). -/
def Obligations.DeadlineExpiryMakesMissing : Prop :=
  ∀ (p : Pos) (s : State), s.PositionLaw →
    ((s.pos p).deadline ≠ some s.tick → exec (.deadlineExpiry p) s = .next s) ∧
    ((s.pos p).deadline = some s.tick → ∃ t : State, exec (.deadlineExpiry p) s = .next t ∧
      t = { s with positions := t.positions, warn := t.warn, ports := t.ports } ∧
      (∀ q, q ≠ p → q ≠ partner p → t.pos q = s.pos q) ∧
      t.pos (partner p) = { s.pos (partner p) with
        live := (s.pos (partner p)).live &&& ~~~ kindMask .imbalance } ∧
      t.pos p = { s.pos p with
        state := .missing, deadline := none, live := (t.pos p).live, latched := (t.pos p).latched,
        capture := (t.pos p).capture } ∧
      (hasKind s.activeProfile.enable .missing = false →
        (t.pos p).live = (s.pos p).live &&& ~~~ kindMask .imbalance ∧
        (t.pos p).latched = (s.pos p).latched ∧ (t.pos p).capture = (s.pos p).capture ∧ t.ports = s.ports) ∧
      (hasKind s.activeProfile.enable .missing = true →
        (t.pos p).live = ((s.pos p).live &&& ~~~ kindMask .imbalance) ||| kindMask .missing ∧
        ∀ port : Port,
          (t.pos p).latched.get port = (s.pos p).latched.get port ||| kindMask .missing ∧
          ((s.pos p).latched.get port = 0 → (t.pos p).capture.get port = some
            { kind := .missing, tick := s.tick, pc := (s.pos p).pc,
              temperature := (s.pos p).sample.bind (·.content.temperature) }) ∧
          ((s.pos p).latched.get port ≠ 0 → (t.pos p).capture.get port = (s.pos p).capture.get port) ∧
          t.port port = (s.port port).enqueue
            { ident := frameIdent 2 2 0x61#8 0xFF#8 s.address
              data := alarmBytes p .missing .expiry s.tick (s.pos p)
              sending := false }))

/-- O24. TRL_CHANGE and BODY_CHANGE: the level is followed, and while RUNNING the debounce timer runs from
the first differing level until the level returns (R48, R105); while STARTING nothing else changes (R161). -/
def Obligations.InputChangeRunsDebounce : Prop :=
  ∀ (high : Bool) (s : State),
    (s.phase = .starting →
      exec (.trlChange high) s = .next { s with trl := high } ∧
      exec (.bodyChange high) s = .next { s with body := high }) ∧
    (s.phase = .running → high = s.trailerPresent →
      exec (.trlChange high) s = .next { s with trl := high, trlTimer := none }) ∧
    (s.phase = .running → high ≠ s.trailerPresent →
      exec (.trlChange high) s = .next
        { s with trl := high, trlTimer := if s.trlTimer = none then some s.tick else s.trlTimer }) ∧
    (s.phase = .running → (high = true ↔ s.bodyState = .raised) →
      exec (.bodyChange high) s = .next { s with body := high, bodyTimer := none }) ∧
    (s.phase = .running → ¬ (high = true ↔ s.bodyState = .raised) →
      exec (.bodyChange high) s = .next
        { s with body := high, bodyTimer := if s.bodyTimer = none then some s.tick else s.bodyTimer })

/-- O25. TRL_DEBOUNCE_EXPIRY: the trailer section decoupled, its positions leaving the teach queue, or
recoupled (R48, R49, R50, R140); without 20 ticks of a differing level it does nothing (log 2, log 4). -/
def Obligations.TrlExpiryCouplesOrDecouples : Prop :=
  (∀ s : State, s.trlTimer = none ∨ (∃ start, s.trlTimer = some start ∧ (s.tick - start).toNat < 20) ∨
      s.trl = s.trailerPresent → exec .trlDebounceExpiry s = .next s) ∧
  ∀ (s : State) (start : Tick), s.trlTimer = some start → 20 ≤ (s.tick - start).toNat →
    s.trl ≠ s.trailerPresent →
    ∃ t : State, exec .trlDebounceExpiry s = .next t ∧ t.trailerPresent = s.trl ∧ t.trlTimer = none ∧
      t.foreign = s.foreign ∧ t.axles = s.axles ∧ t.merge = s.merge ∧ t.context = s.context ∧
      t.stack = s.stack ∧ t.settings = s.settings ∧ t.profiles = s.profiles ∧ t.store = s.store ∧
      t.flags = s.flags ∧ t.lines = s.lines ∧ t.tick = s.tick ∧ t.phase = s.phase ∧ t.trl = s.trl ∧
      (∀ p, inTruck p = true → (s.pos p).state ≠ .detached → t.pos p = s.pos p) ∧
      (s.trl = true → t.teach = s.teach ∧ t.grant = s.grant ∧ t.ports = s.ports ∧
        (∀ p, (s.pos p).state = .detached → t.pos p =
          { s.pos p with state := .waiting, deadline := some (s.tick + 6000#24) }) ∧
        (∀ p, (s.pos p).state ≠ .detached → t.pos p = s.pos p)) ∧
      (s.trl = false →
        (∀ p, inTruck p = false → (s.pos p).sensor ≠ none → t.pos p =
          { s.pos p with
            state := .detached, beforeHold := none, deadline := none, remaining := none, live := 0 }) ∧
        (∀ p, inTruck p = false → (s.pos p).sensor = none → t.pos p = s.pos p) ∧
        (s.teach = none → t.teach = none ∧ t.grant = s.grant ∧ t.ports = s.ports) ∧
        (∀ session, s.teach = some session → session.queue.filter inTruck ≠ [] →
          t.grant = s.grant ∧ t.ports = s.ports ∧
          t.teach = some { session with
            queue := session.queue.filter inTruck
            stepDeadline := if (session.queue.filter inTruck).head? = session.queue.head? then
                session.stepDeadline
              else s.tick + 1200#24 }) ∧
        (∀ session, s.teach = some session → session.queue.filter inTruck = [] →
          t.teach = none ∧ t.grant = { s.grant with idleTimer := some s.tick } ∧
          t.ports = (s.notice 0x76#8 [3, byteOf session.count]).ports))

/-- O26. BODY_DEBOUNCE_EXPIRY: the body state follows; the tipping profile is pushed, or the topmost BODY
entry removed, each with its STACK CHANGED report on both ports and, where the top changed, a re-evaluation after
it (R99, R105, R106, R107, R109, R185); without 5 ticks of a differing level it does nothing (log 2, log 4). -/
def Obligations.BodyExpiryPushesOrRemoves : Prop :=
  (∀ s : State, s.bodyTimer = none ∨ (∃ start, s.bodyTimer = some start ∧ (s.tick - start).toNat < 5) ∨
      (s.body = true ↔ s.bodyState = .raised) → exec .bodyDebounceExpiry s = .next s) ∧
  ∀ (s s1 : State) (start : Tick), s.bodyTimer = some start → 5 ≤ (s.tick - start).toNat →
    (s.body = true → s.bodyState = .lowered → s1 = { s with bodyTimer := none, bodyState := .raised } →
      (s.settings.tipping = none → exec .bodyDebounceExpiry s = .next s1.recomputeWarn) ∧
      (∀ i stack s2, s.settings.tipping = some i →
        stack = (if s.stack.length < 3 then s.stack else s.stack.tail) ++ [{ index := i, origin := .body }] →
        s2 = ({ s1 with stack := stack } : State).raisedOnBoth 3 2 0x62#8 (fun _ =>
          [byteOf (2 + 4 * 3 + (if s.stack.length < 3 then 0 else 16) + 64),
            optEntry (if s.stack.length < 3 then none else s.stack.head?), byteOf stack.length,
            optEntry stack[0]?, optEntry stack[1]?, optEntry stack[2]?]) →
        exec .bodyDebounceExpiry s = .next s2.reevaluate.recomputeWarn)) ∧
    (s.body = false → s.bodyState = .raised → s1 = { s with bodyTimer := none, bodyState := .lowered } →
      ((∀ e ∈ s.stack, e.origin ≠ .body) → exec .bodyDebounceExpiry s = .next s1.recomputeWarn) ∧
      (∀ below e above stack s2, s.stack = below ++ e :: above → e.origin = .body →
        (∀ f ∈ above, f.origin ≠ .body) →
        stack = (if below ++ above = [] then [{ index := 0, origin := .reset }] else below ++ above) →
        s2 = ({ s1 with stack := stack } : State).raisedOnBoth 3 2 0x62#8 (fun _ =>
          [byteOf (3 + 4 * 3 + (if below ++ above = [] then 32 else 0) + (if above = [] then 64 else 0)),
            0xFF, byteOf stack.length, optEntry stack[0]?, optEntry stack[1]?, optEntry stack[2]?]) →
        exec .bodyDebounceExpiry s = .next (if above = [] then s2.reevaluate else s2).recomputeWarn))

/-- O27. KEPT_TICK_SATURATION marks every kept tick whose span has reached 8,388,607, whose spans are then
always 8,388,607, and changes nothing else; from a tick not marked the span is the difference modulo 2^24, capped at
8,388,607 (R1; without operand, and the cap: log 22). -/
def Obligations.SaturationMarksOldTicks : Prop :=
  (∀ s : State, ∃ t : State, exec .keptTickSaturation s = .next t ∧
    t = { s with positions := t.positions, foreign := t.foreign } ∧
    (∀ p, t.pos p = { s.pos p with sample := (t.pos p).sample, leakHistory := (t.pos p).leakHistory }) ∧
    (∀ p, ((s.pos p).sample = none → (t.pos p).sample = none) ∧
      (∀ sm, (s.pos p).sample = some sm → (t.pos p).sample =
        some { sm with tick := { sm.tick with
          saturated := sm.tick.saturated || decide (8388607 ≤ (s.tick - sm.tick.tick).toNat) } })) ∧
    (∀ p, (t.pos p).leakHistory = (s.pos p).leakHistory.map fun e => { e with tick := { e.tick with
      saturated := e.tick.saturated || decide (8388607 ≤ (s.tick - e.tick.tick).toNat) } }) ∧
    t.foreign = s.foreign.map fun e => { e with tick := { e.tick with
      saturated := e.tick.saturated || decide (8388607 ≤ (s.tick - e.tick.tick).toNat) } }) ∧
  (∀ (k : KeptTick) (later : Tick), k.saturated = true → keptSpan k later = 8388607) ∧
  (∀ (k : KeptTick) (later : Tick), k.saturated = false →
    keptSpan k later = min 8388607 ((later.toNat + 2 ^ 24 - k.tick.toNat) % 2 ^ 24))

/-! ### Ports (chapter 11) -/

/-- O28. A frame raised for a port, as its state and its queue take it (R171, R173, R174). -/
def Obligations.RaisedFrameIsQueuedOrLost : Prop :=
  ∀ (c : PortCtl) (f : TxFrame),
    (c.mode ≠ .active → c.enqueue f = if f.cyclic = true then c else { c with overflow := true }) ∧
    (c.mode = .active → c.queue.length < 16 → c.enqueue f = { c with queue := c.queue ++ [f] }) ∧
    (c.mode = .active → c.queue.length = 16 → f.cyclic = true → c.enqueue f = c) ∧
    (c.mode = .active → c.queue.length = 16 → f.cyclic = false →
      (∀ g ∈ c.queue, g.cyclic = false ∨ g.sending = true) → c.enqueue f = { c with overflow := true }) ∧
    (∀ older g newer, c.mode = .active → c.queue.length = 16 → f.cyclic = false →
      c.queue = older ++ g :: newer → g.cyclic = true → g.sending = false →
      (∀ h ∈ older, h.cyclic = false ∨ h.sending = true) →
      c.enqueue f = { c with queue := older ++ newer ++ [f] })

/-- O29. The frames of an answer are raised in their order on the port of the request, with priority 4, class
ANSWER, the code of the request, its sender as target and the part as sender; nothing else changes. Where the
port is ACTIVE and has room they stand behind the frames queued before (R165, R167). A notice is raised on both
ports with priority 3, class NOTICE, target FFh and the part as sender (R165, R171). -/
def Obligations.AnswerFramesQueuedInOrder : Prop :=
  (∀ (s : State) (r : Request) (code : Byte) (frames : List (List Byte)),
    s.answer r code frames = s.setPort r.port ((frames.map fun data =>
      { ident := (4#3 ++ 1#2 ++ code ++ r.sender ++ (0x70#8 + s.straps.setWidth 8) : BitVec 29),
        data := data, sending := false : TxFrame }).foldl PortCtl.enqueue (s.port r.port)) ∧
    ((s.port r.port).mode = .active → (s.port r.port).queue.length + frames.length ≤ 16 →
      s.answer r code frames = s.setPort r.port { s.port r.port with
        queue := (s.port r.port).queue ++ frames.map fun data =>
          { ident := (4#3 ++ 1#2 ++ code ++ r.sender ++ (0x70#8 + s.straps.setWidth 8) : BitVec 29),
            data := data, sending := false } })) ∧
  (∀ (s : State) (code : Byte) (data : List Byte) (f : TxFrame),
    f = { ident := (3#3 ++ 3#2 ++ code ++ 0xFF#8 ++ (0x70#8 + s.straps.setWidth 8) : BitVec 29),
          data := data, sending := false } →
    s.notice code data = { s with ports :=
      { a := (s.port .a).enqueue f, b := (s.port .b).enqueue f } })

/-- O30. CYCLIC_REPORT: the first present axle from the port's next-axle number up and round is reported, the
number moves past it, and the timer is set again; an axle is present when its kind is not ABSENT and, on the
trailer, while trailer-present is true (R175). -/
def Obligations.CyclicReportTakesNextPresentAxle : Prop :=
  (∀ (s : State) (a : AxleNo), s.axlePresent a = true ↔
    (s.axle a).kind ≠ .absent ∧ (a.val < 4 ∨ s.trailerPresent = true)) ∧
  ∀ (port : Port) (s : State), s.phase = .running → (s.port port).mode = .active →
    (s.port port).periodDue = some s.tick → ∃ t : State, exec (.cyclicReport port) s = .next t ∧
    t = { s with ports := t.ports } ∧ t.port port.other = s.port port.other ∧
    (t.port port).periodDue = some (s.tick + BitVec.ofNat 24 (s.settings.reportPeriod.get port)) ∧
    (t.port port).mode = .active ∧ (t.port port).errors = (s.port port).errors ∧
    (t.port port).overflow = (s.port port).overflow ∧
    ((∀ a, s.axlePresent a = false) → (t.port port).nextAxle = (s.port port).nextAxle ∧
      (t.port port).queue = (s.port port).queue) ∧
    (∀ k : Nat, k < 8 → s.axlePresent (axlePlus (s.port port).nextAxle k) = true →
      (∀ j : Nat, j < k → s.axlePresent (axlePlus (s.port port).nextAxle j) = false) →
      (t.port port).nextAxle = axlePlus (s.port port).nextAxle (k + 1) ∧
      ∀ frames : List TxFrame,
        frames = ((([0, 1, 2, 3].map fun i => posAt (axlePlus (s.port port).nextAxle k)
            (visitedSlot (s.settings.order.get port) 0 i)).filter s.posExists).map fun p =>
          { ident := frameIdent 5 2 0x60#8 0xFF#8 s.address
            data := reportBytes p (s.pos p) ((s.pos p).latched.get port)
            sending := false }) →
        (t.port port).queue = (frames.foldl PortCtl.enqueue (s.port port)).queue ∧
        ((s.port port).queue.length ≤ 12 → (t.port port).queue = (s.port port).queue ++ frames))

/-- O31. FRAME_OFFER puts in transmission the queued frame with the lowest identifier, the oldest among
equals, when the transmitter is idle and the port ACTIVE, and does nothing otherwise (R172, log 4). -/
def Obligations.FrameOfferPicksLowestOldest : Prop :=
  ∀ (port : Port) (s : State),
    ((s.port port).mode ≠ .active ∨ (∃ f ∈ (s.port port).queue, f.sending = true) ∨
        (s.port port).queue = [] → exec (.frameOffer port) s = .next s) ∧
    ((s.port port).mode = .active → (∀ f ∈ (s.port port).queue, f.sending = false) →
      (s.port port).queue ≠ [] → ∃ older f newer,
        (s.port port).queue = older ++ f :: newer ∧
        (∀ g ∈ older, f.ident < g.ident) ∧ (∀ g ∈ newer, f.ident ≤ g.ident) ∧
        exec (.frameOffer port) s = .next (s.setPort port
          { s.port port with queue := older ++ { f with sending := true } :: newer }))

/-- O32. ATTEMPT_END in its three ways, a failure above 255 taking the port into BUS-OFF with its port reset,
and BUS_OFF_RETURN a second (10 ticks) later (R172, R175, R177, R178); both do nothing where they are not due
(log 2, log 4). -/
def Obligations.AttemptEndsAndBusOffReturns : Prop :=
  ∀ (port : Port) (s : State),
    (∀ older f newer, (s.port port).queue = older ++ f :: newer → f.sending = true →
      (∀ g ∈ older, g.sending = false) → (∀ g ∈ newer, g.sending = false) →
      exec (.attemptEnd port .success) s = .next (s.setPort port
        { s.port port with queue := older ++ newer, errors := (s.port port).errors - 1 }) ∧
      exec (.attemptEnd port .lostArbitration) s = .next (s.setPort port
        { s.port port with queue := older ++ { f with sending := false } :: newer }) ∧
      ((s.port port).errors + 8 ≤ 255 →
        exec (.attemptEnd port .failure) s = .next (s.setPort port
          { s.port port with
            queue := older ++ { f with sending := false } :: newer, errors := (s.port port).errors + 8 })) ∧
      (255 < (s.port port).errors + 8 → ∀ s1 : State,
        s1 = s.setPort port
          { mode := .busOff s.tick, queue := [], errors := 0, periodDue := none, nextAxle := 0
            overflow := (s.port port).overflow || decide (∃ g ∈ (s.port port).queue, g.cyclic = false) } →
        exec (.attemptEnd port .failure) s = .next
          (if s.grant.state = .held port then s1.endTenure port
           else { s1 with grant := { s1.grant with waiting := s1.grant.waiting.filter (· ≠ port) } }))) ∧
    ((∀ g ∈ (s.port port).queue, g.sending = false) → ∀ r, exec (.attemptEnd port r) s = .next s) ∧
    ((s.port port).mode = .active → exec (.busOffReturn port) s = .next s) ∧
    (∀ since, (s.port port).mode = .busOff since → (s.tick - since).toNat < 10 →
      exec (.busOffReturn port) s = .next s) ∧
    (∀ since, (s.port port).mode = .busOff since → 10 ≤ (s.tick - since).toNat → s.phase = .running →
      exec (.busOffReturn port) s = .next (s.setPort port
        { s.port port with
          mode := .active, errors := 0
          periodDue := some (s.tick + BitVec.ofNat 24 (s.settings.reportPeriod.get port)) }))

/-- O33. The frames on a bus: each is read by its identifier into the request its code names, with the priority,
class, target and sender of R180. A port takes a data frame with a 29-bit identifier and class REQUEST that is for
the part or for all, while it is ACTIVE. Every request: passed over where the port does not take it; while STARTING
answered NOT-READY and nothing else, but for VEHICLE STATE, which is ignored; answered INVALID where its mandatory
fields cannot be read, READ FOREIGN with the entry count besides (R161, R165, R166, R180, R184; an unknown code is
NOT-READY while STARTING too: log 15). -/
def Obligations.RequestsJudgedAlike : Prop :=
  (∀ f : BusFrame, f.command.wellFormed = true ∧ ∃ code r, requestOf f.command = some (code, r) ∧
    f.ident = (r.priority ++ r.cls ++ code ++ r.target ++ r.sender : BitVec 29) ∧
    r.port = f.port ∧ r.form = f.form ∧ r.dlc = f.dlc ∧ r.data = f.data) ∧
  (∀ (s : State) (r : Request), s.takes r = true ↔ r.form = .data29 ∧ r.cls = 0 ∧
    (r.target = 0x70#8 + s.straps.setWidth 8 ∨ r.target = 0xFF#8) ∧ (s.port r.port).mode = .active) ∧
  ∀ (c : Instr) (code : Byte) (r : Request) (s : State), c.wellFormed = true →
    requestOf c = some (code, r) →
    (r.form ≠ .data29 ∨ r.cls ≠ 0 ∨ (r.target ≠ s.address ∧ r.target ≠ 0xFF#8) ∨
      (s.port r.port).mode ≠ .active → exec c s = .next s) ∧
    (s.takes r = true → s.phase = .starting → code ≠ 0x50#8 →
      exec c s = .next (s.answer r code
        [if code = 0x05#8 then [0x86#8, byteOf s.foreign.length] else [0x86#8]])) ∧
    (s.phase = .starting → code = 0x50#8 → exec c s = .next s) ∧
    (s.serves r → operandsReadable c = false →
      exec c s = .next (s.answer r code
        [if code = 0x05#8 then [0x82#8, byteOf s.foreign.length] else [0x82#8]]))

/-- O34. An edit from a port that does not hold the grant changes nothing: it is answered INVALID where its
mandatory fields cannot be read, else NO-GRANT (R144). -/
def Obligations.EditWithoutGrantRefused : Prop :=
  ∀ (c : Instr) (code : Byte) (r : Request) (s : State), requestOf c = some (code, r) → code ∈ editCodes →
    c.wellFormed = true → s.serves r → s.grant.state ≠ .held r.port →
    exec c s = .next (s.answer r code [[if operandsReadable c = true then 0x80#8 else 0x82#8]])

/-- O35. The reads of positions, axles, profiles, settings and stack: the frames of their DONE answers; the two
visiting orders from each start slot, and the slots that exist on each kind of axle (R31, R55, R56, R97, R110, R168, R169, R181, R182, R184; temperatures stand as °C + 50 on the wire: log 18). -/
def Obligations.TableReadsAnswer : Prop :=
  ∀ (r : Request) (s : State), s.serves r →
    (∀ p : Pos, byteAt r 0 = some p.val → exec (.readPosition r) s = .next (s.answer r 0x01#8
      [reportBytes p (s.pos p) ((s.pos p).latched.get r.port),
       optId (s.pos p).sensor ++ (match (s.pos p).sample with
        | none => [0xC0, 0, 0, 0]
        | some sm =>
          [byteOf (64 * sm.content.kind.code + (if sm.content.motion = true then 1 else 0) +
              (if sm.content.batteryLow = true then 2 else 0) + (if sm.content.sensorFault = true then 4 else 0)),
            byteOf (sm.seq.toNat + (if sm.heard.conflict = true then 16 else 0) + 32 * sm.heard.bestLine.val),
            byteOf (16 * sm.heard.lineMask.toNat + (sm.heard.copyCount - 1)), sm.heard.bestRssi]),
       (match (s.pos p).capture.get r.port with
        | none => [0xFF, 0xFF, 0xFF, 0xFF, 0xFF, 0xFF, 0xFF]
        | some c => [byteOf c.kind.bit] ++ be24 c.tick ++ optBe16 c.pc ++ [optTemp c.temperature]),
       optBe16 (s.pos p).leakRate ++ [optTemp (s.pos p).lastTemp] ++
        (match (s.pos p).sample with
        | none => [0xFF, 0xFF, 0xFF, 0xFF, 0]
        | some sm => optBe16 sm.content.pressure ++ be16 (keptSpan sm.tick s.tick / 10 |> min 65534) ++
            [sm.heard.frameSet.setWidth 8])])) ∧
    (∀ (p : Pos) (x : Position) (latched : KindMask), reportBytes p x latched =
      [byteOf p.val, byteOf (16 * x.state.code + (if x.live &&& 0x02A#10 ≠ 0 then 3
          else if x.live &&& 0x1D5#10 ≠ 0 then 2 else if x.live ≠ 0 then 1 else 0))] ++ optBe16 x.pc ++
        [optTemp (x.sample.bind (·.content.temperature))] ++ be24 ((x.live ++ latched).setWidth 24)) ∧
    (∀ start i : Slot, (visitedSlot .linear start i.val).val = (start.val + i.val) % 4) ∧
    ((List.finRange 4).map fun start => (List.range 4).map fun i => visitedSlot .twin start i) =
      [[0, 1, 2, 3], [1, 0, 3, 2], [2, 3, 0, 1], [3, 2, 1, 0]] ∧
    (∀ p : Pos, s.posExists p = true ↔ (s.axle (axleOf p)).kind = .twin ∨
      ((s.axle (axleOf p)).kind = .single ∧ (p.val % 4 = 0 ∨ p.val % 4 = 3))) ∧
    (∀ (a : AxleNo) (start : Slot) (orderCode : Nat) (n : Nat) (order : VisitOrder) (ps : List Pos),
      byteAt r 0 = some a.val → byteAt r 1 = some start.val → byteAt r 2 = some orderCode →
      byteAt r 3 = some n → 1 ≤ n → n ≤ 4 →
      (orderCode = 0 ∧ order = .linear) ∨ (orderCode = 1 ∧ order = .twin) ∨
        (orderCode = 2 ∧ order = s.settings.order.get r.port) →
      ps = ((([0, 1, 2, 3].take n).map fun i => posAt a (visitedSlot order start i)).filter s.posExists) →
      exec (.readAxle r) s = .next (s.answer r 0x02#8
        (([0, byteOf a.val, byteOf (s.axle a).kind.code] ++ be16 (s.axle a).unladen ++ be16 (s.axle a).laden ++
            [byteOf ((if s.lifted a = true then 128 else 0) + ps.length)]) ::
          ps.map fun p => reportBytes p (s.pos p) ((s.pos p).latched.get r.port)))) ∧
    (∀ i : ProfileNo, byteAt r 0 = some i.val → exec (.readProfile r) s = .next (s.answer r 0x03#8
      [ [0, byteOf i.val] ++ be16 (s.profile i).enable.toNat ++ be16 (s.profile i).uw ++ be16 (s.profile i).uc,
        be16 (s.profile i).ow ++ [byteOf (s.profile i).hyst, byteOf ((s.profile i).tw + 50).toNat,
          byteOf ((s.profile i).tc + 50).toNat, byteOf (s.profile i).th] ++ be16 (s.profile i).ib,
        [byteOf (s.profile i).lk] ])) ∧
    exec (.readSettings r) s = .next (s.answer r 0x04#8
      [ [0, BitVec.ofInt 8 s.settings.tref, byteOf (tippingCode s.settings.tipping),
          byteOf s.settings.lampPorts.code, byteOf s.settings.flashPeriod, byteOf s.settings.flashWidth,
          byteOf (portCode s.settings.loadSource + 2 * portCode s.settings.truckSource +
            4 * portCode s.settings.trailerSource)],
        [byteOf s.settings.reportPeriod.a, byteOf s.settings.order.a.code, byteOf s.settings.reportPeriod.b,
          byteOf s.settings.order.b.code] ]) ∧
    exec (.readStack r) s = .next (s.answer r 0x07#8
      [[0, byteOf s.stack.length, optEntry s.stack[0]?, optEntry s.stack[1]?, optEntry s.stack[2]?,
        if s.bodyState = .raised then 1 else 0, byteOf (tippingCode s.settings.tipping)]])

/-- O36. READ FOREIGN, READ LINE STATUS with its clearing, READ STATUS with its overflow flag, and the answer
to a code that names no request (R16, R47, R166, R170, R184; READ STATUS frame 4 without a session: log 17, the
places of its flags: log 32; the codes of the truck lock byte in frame 2: log 35). -/
def Obligations.StatusReadsAnswer : Prop :=
  ∀ (r : Request) (s : State), s.serves r →
    (∀ (i : Nat) (e : ForeignEntry), byteAt r 0 = some i → i < 8 → s.foreign[i]? = some e →
      exec (.readForeign r) s = .next (s.answer r 0x05#8
        [[byteOf (16 * e.lineMask.toNat + (if e.motionSeen = true then 8 else 0) + (s.foreign.length - 1))] ++
          be32 e.id ++ [byteOf e.hits, e.rssi, byteOf (min 255 (keptSpan e.tick s.tick / 10))]])) ∧
    (∀ i : Nat, byteAt r 0 = some i → i < 8 → s.foreign.length ≤ i →
      exec (.readForeign r) s = .next (s.answer r 0x05#8 [[0x85#8, byteOf s.foreign.length]])) ∧
    (∀ (i : Fin 4) (clear : Nat), byteAt r 0 = some i.val → byteAt r 1 = some clear →
      exec (.readLineStatus r) s = .next (State.answer
        (if clear % 2 = 1 then
          s.setLine i { s.line i with framing := 0, check := 0, crc := 0, ident := 0 } else s) r 0x06#8
        [be16 (s.line i).framing.toNat ++ be16 (s.line i).check.toNat ++ be16 (s.line i).crc.toNat ++
          be16 (s.line i).ident.toNat])) ∧
    exec (.readStatus r) s = .next
      ((s.setPort r.port { s.port r.port with overflow := false }).answer r 0x08#8
        [ [0, 0x70#8 + s.straps.setWidth 8, byteOf (s.port r.port).errors,
            byteOf ((if (s.port r.port).overflow = true then 1 else 0) +
              (if (s.port r.port.other).mode = .active then 0 else 2) +
              (if (s.port r.port.other).overflow = true then 4 else 0) +
              (if s.trailerPresent = true then 8 else 0)), s.warn.level.code],
          [s.grant.state.code, byteOf (s.grant.waiting.length +
              (if s.grant.waiting[0]? = some .b then 4 else 0) + (if s.grant.waiting[1]? = some .b then 8 else 0)),
            if s.grant.truckLock = true then 1 else 0] ++ be16 s.grant.revision.toNat,
          [byteOf s.context.load, byteOf (s.context.truckLifted.toNat + 16 * s.context.trailerLifted.toNat),
            byteOf s.context.ambient],
          (match s.teach with
            | none => [0, 0xFF, 0, 0]
            | some t => [byteOf (128 + portCode t.owner), optPos t.queue.head?, byteOf t.queue.length,
                byteOf t.count]) ++
            [byteOf ((if s.flags.t.defaulted = true then 4 else 0) + (if s.flags.l.defaulted = true then 2 else 0) +
              (if s.flags.p.defaulted = true then 1 else 0) + (if s.flags.t.writeFailed = true then 64 else 0) +
              (if s.flags.l.writeFailed = true then 32 else 0) + (if s.flags.p.writeFailed = true then 16 else 0))] ]) ∧
    (∀ code, code ∉ requestCodes → exec (.unknownRequest code r) s = .next (s.answer r code [[0x82#8]]))

/-! ### Acknowledging, holding, stacking, granting, context -/

/-- O37. ACK: the requesting port's sets and captures emptied at the named positions, the other port's and
all else kept, and the count of sets that were not empty answered (R123). -/
def Obligations.AckEmptiesOwnSide : Prop :=
  ∀ (r : Request) (s : State) (named : Pos → Bool), s.serves r →
    ((byteAt r 0 = some 0xFF ∧ ∀ p, named p = true) ∨
      ∃ p : Pos, byteAt r 0 = some p.val ∧ ∀ q, named q = decide (q = p)) →
    ∃ t : State, t = { s with positions := t.positions } ∧
      (∀ p, named p = false → t.pos p = s.pos p) ∧
      (∀ p, named p = true → t.pos p = { s.pos p with
        latched := (s.pos p).latched.set r.port 0, capture := (s.pos p).capture.set r.port none }) ∧
      exec (.ack r) s = .next (t.recomputeWarn.answer r 0x10#8
        [[0, byteOf (((List.finRange 32).filter fun p =>
          named p && decide ((s.pos p).latched.get r.port ≠ 0)).length)]])

/-- O38. HOLD and UNHOLD: the position taken out of service with its remaining time, and restored with its
deadline or to MISSING, at once where no time remained (log 19); positions that cannot be held or are not HELD
unchanged (R52, R53, R117, R118). -/
def Obligations.HoldThenUnhold : Prop :=
  ∀ (r : Request) (s : State) (p : Pos), s.serves r → byteAt r 0 = some p.val → s.PositionLaw →
    ((s.pos p).state = .unassigned ∨ (s.pos p).state = .detached →
      exec (.hold r) s = .next (s.answer r 0x11#8 [[0x82#8]])) ∧
    ((s.pos p).state = .held → exec (.hold r) s = .next (s.answer r 0x11#8 [[0]])) ∧
    ((s.pos p).state = .waiting ∨ (s.pos p).state = .active ∨ (s.pos p).state = .missing →
      ∃ t : State, exec (.hold r) s = .next (t.recomputeWarn.answer r 0x11#8 [[0]]) ∧
        t = { s with positions := t.positions } ∧
        (∀ q, q ≠ p → q ≠ partner p → t.pos q = s.pos q) ∧
        t.pos (partner p) = { s.pos (partner p) with
          live := (s.pos (partner p)).live &&& ~~~ kindMask .imbalance } ∧
        t.pos p = { s.pos p with
          state := .held, beforeHold := some (s.pos p).state
          remaining := (s.pos p).deadline.map fun d => (d - s.tick).toNat
          deadline := none, live := 0, leakHistory := [], leakRate := none }) ∧
    ((s.pos p).state ≠ .held → exec (.unhold r) s = .next (s.answer r 0x12#8 [[0]])) ∧
    (∀ st n, ∀ s1 : State, (s.pos p).state = .held → (s.pos p).beforeHold = some st →
      (s.pos p).remaining = some n → s1 = s.setPos p { s.pos p with
        state := st, beforeHold := none, remaining := none
        deadline := some (s.tick + BitVec.ofNat 24 n) } →
      (BitVec.ofNat 24 n ≠ 0 → exec (.unhold r) s = .next (s1.recomputeWarn.answer r 0x12#8 [[0]])) ∧
      (BitVec.ofNat 24 n = 0 →
        exec (.unhold r) s = .next ((s1.fallMissing p).recomputeWarn.answer r 0x12#8 [[0]]))) ∧
    ((s.pos p).state = .held → (s.pos p).beforeHold = some .missing → ∀ s1 : State,
      s1 = s.setPos p { s.pos p with
        state := .missing, beforeHold := none, remaining := none
        live := if hasKind s.activeProfile.enable .missing = true then kindMask .missing else 0 } →
      exec (.unhold r) s = .next
        ((if hasKind s.activeProfile.enable .missing = true then
            s1.latchAll .restore [(p, .missing)] else s1).recomputeWarn.answer r 0x12#8 [[0]]))

/-- O39. PUSH and POP: an entry of the requesting port's origin on top, or its topmost entry removed, with
discard and fall-back; the STACK CHANGED report on both ports, a re-evaluation after it where the top changed,
and the answer last (R99, R100, R102, R103, R109, R185). -/
def Obligations.PushAndPopByOrigin : Prop :=
  ∀ (r : Request) (s : State), s.serves r →
    (∀ (i : ProfileNo) stack s2, byteAt r 0 = some i.val →
      stack = (if s.stack.length < 3 then s.stack else s.stack.tail) ++
        [{ index := i, origin := .port r.port }] →
      s2 = ({ s with stack := stack } : State).raisedOnBoth 3 2 0x62#8 (fun _ =>
        [byteOf (0 + 4 * portCode r.port + (if s.stack.length < 3 then 0 else 16) + 64),
          optEntry (if s.stack.length < 3 then none else s.stack.head?), byteOf stack.length,
          optEntry stack[0]?, optEntry stack[1]?, optEntry stack[2]?]) →
      exec (.push r) s = .next (s2.reevaluate.recomputeWarn.answer r 0x13#8 [[0]])) ∧
    ((∀ e ∈ s.stack, e.origin ≠ .port r.port) → exec (.pop r) s = .next (s.answer r 0x14#8 [[0x85#8]])) ∧
    (∀ below e above stack s2, s.stack = below ++ e :: above → e.origin = .port r.port →
      (∀ f ∈ above, f.origin ≠ .port r.port) →
      stack = (if below ++ above = [] then [{ index := 0, origin := .reset }] else below ++ above) →
      s2 = ({ s with stack := stack } : State).raisedOnBoth 3 2 0x62#8 (fun _ =>
        [byteOf (1 + 4 * portCode r.port + (if below ++ above = [] then 32 else 0) +
            (if above = [] then 64 else 0)),
          0xFF, byteOf stack.length, optEntry stack[0]?, optEntry stack[1]?, optEntry stack[2]?]) →
      exec (.pop r) s = .next
        ((if above = [] then s2.reevaluate else s2).recomputeWarn.answer r 0x14#8 [[0]]))

/-- O40. GRANT REQUEST and GRANT RELEASE in every grant state (R146, R148; the holder's request restarts the idle
timer as R146 and R147 say, against the last paragraph of R144: log 34). -/
def Obligations.GrantRequestAndRelease : Prop :=
  ∀ (r : Request) (s : State), s.serves r → s.GrantLaw →
    (s.grant.state = .free → exec (.grantRequest r) s = .next (State.answer
      { s with grant := { s.grant with
          state := .held r.port, marks := .all false, idleTimer := some s.tick } } r 0x20#8 [[0x03#8]])) ∧
    (s.grant.state = .held r.port → exec (.grantRequest r) s = .next (State.answer
      { s with grant := { s.grant with
          idleTimer := if s.teach = none then some s.tick else s.grant.idleTimer } } r 0x20#8 [[0x03#8]])) ∧
    (s.grant.state ≠ .free → s.grant.state ≠ .held r.port → exec (.grantRequest r) s = .next (State.answer
      { s with grant := { s.grant with
          waiting := if r.port ∈ s.grant.waiting then s.grant.waiting else s.grant.waiting ++ [r.port] } }
      r 0x20#8 [[0x02#8]])) ∧
    (s.grant.state = .held r.port →
      exec (.grantRelease r) s = .next ((s.endTenure r.port).answer r 0x21#8 [[0]])) ∧
    (s.grant.state ≠ .held r.port → r.port ∈ s.grant.waiting → exec (.grantRelease r) s = .next (State.answer
      { s with grant := { s.grant with waiting := s.grant.waiting.filter (· ≠ r.port) } } r 0x21#8 [[0]])) ∧
    (s.grant.state ≠ .held r.port → r.port ∉ s.grant.waiting →
      exec (.grantRelease r) s = .next (s.answer r 0x21#8 [[0x84#8]]))

/-- O41. The end of a tenure: the session ABORTED, the timer stopped, and with changes the revision advanced,
TABLE REVISION raised and the marked sections and P handed over for saving, else the handover; IDLE_EXPIRY
raises GRANT LOST first, and does nothing where the timer is stopped or has not run for 30 s (300 ticks) since it
was last set (R147, R148, R151, R152; log 2, log 4). -/
def Obligations.TenureEndSavesChanges : Prop :=
  (∀ (s s1 : State) (p : Port), s.grant.state = .held p → s1 = s.endTeach .aborted →
    (s.grant.marks = .all false → s.grant.waiting = [] →
      s.endTenure p = { s1 with grant := { s1.grant with idleTimer := none, state := .free } }) ∧
    (∀ q waiting, s.grant.marks = .all false → s.grant.waiting = q :: waiting →
      s.endTenure p =
        State.notice { s1 with grant := { s1.grant with
            state := .held q, waiting := waiting, marks := .all false, idleTimer := some s.tick } }
          0x71#8 [byteOf (portCode q)]) ∧
    (∀ revision : Word16, s.grant.marks ≠ .all false →
      revision = (if s.grant.revision = 0xFFFF#16 then 1 else s.grant.revision + 1) →
      s.endTenure p =
        State.notice { s1 with grant := { s1.grant with
            state := .saving, idleTimer := none, revision := revision, marks := .all false
            toSave := (if s.grant.marks.t = true then [.t] else []) ++
              (if s.grant.marks.l = true then [.l] else []) ++ [.p] } }
          0x70#8 (be16 revision.toNat ++
            [byteOf ((if s.grant.marks.t = true then 1 else 0) + (if s.grant.marks.l = true then 2 else 0) + 4),
             byteOf (portCode p)]))) ∧
  (∀ (s : State) (p : Port) (start : Tick), s.grant.state = .held p → s.grant.idleTimer = some start →
    300 ≤ (s.tick - start).toNat →
    exec .idleExpiry s = .next ((s.notice 0x72#8 [byteOf (portCode p)]).endTenure p)) ∧
  (∀ s : State, s.grant.idleTimer = none ∨
      (∃ start, s.grant.idleTimer = some start ∧ (s.tick - start).toNat < 300) →
    exec .idleExpiry s = .next s)

/-- O42. VEHICLE STATE: each field taken when it is sent by its designated source, clamped or less the bits
of ABSENT axles, with one re-evaluation where a held value changed, and no answer; ignored while STARTING
(R59, R60). -/
def Obligations.VehicleStateUpdatesContext : Prop :=
  ∀ (r : Request) (s : State) (x : Context), s.serves r →
    x.load = (match byteAt r 0 with
      | some n => if r.port = s.settings.loadSource ∧ n ≠ 255 then min 100 n else s.context.load
      | none => s.context.load) →
    x.ambient = (match byteAt r 3 with
      | some n => if n ≠ 0 then max 60 (min 110 n) else s.context.ambient
      | none => s.context.ambient) →
    (∀ i : Fin 4, x.truckLifted.getLsbD i.val = (match byteAt r 1, byteAt r 2 with
      | some m, some f => if r.port = s.settings.truckSource ∧ f.testBit 0 = true then
          m.testBit i.val && decide ((s.axle ⟨i.val, by omega⟩).kind ≠ .absent)
        else s.context.truckLifted.getLsbD i.val
      | _, _ => s.context.truckLifted.getLsbD i.val)) →
    (∀ i : Fin 4, x.trailerLifted.getLsbD i.val = (match byteAt r 1, byteAt r 2 with
      | some m, some f => if r.port = s.settings.trailerSource ∧ f.testBit 1 = true then
          m.testBit (4 + i.val) && decide ((s.axle ⟨4 + i.val, by omega⟩).kind ≠ .absent)
        else s.context.trailerLifted.getLsbD i.val
      | _, _ => s.context.trailerLifted.getLsbD i.val)) →
    exec (.vehicleState r) s = .next
      (if x = s.context then s else ({ s with context := x } : State).reevaluate.recomputeWarn) ∧
    exec (.vehicleState r) { s with phase := .starting } = .next { s with phase := .starting }

/-! ### Edits (chapters 6, 8, 9) -/

/-- O43. WRITE POSITION from the holder: refused, without change, or a record reset of the position with the
new ID or none (R36, R37, R46, R84, R153). -/
def Obligations.WritePositionResult : Prop :=
  ∀ (r : Request) (s : State) (p : Pos) (id : Option SensorId), s.servesHolder r → byteAt r 0 = some p.val →
    ((byteAt r 1 = some 1 ∧ id = none) ∨ (byteAt r 1 = some 0 ∧ ∃ x, idAt r 2 = some x ∧ id = some x)) →
    ((∃ x, id = some x ∧ (x = 0x00000000#32 ∨ x = 0xFFFFFFFF#32 ∨ s.posExists p = false ∨
        ∃ q, q ≠ p ∧ (s.pos q).sensor = some x)) →
      exec (.writePosition r) s = .next (s.answer r 0x30#8 [[0x82#8]])) ∧
    ((∀ x, id = some x → x ≠ 0x00000000#32 ∧ x ≠ 0xFFFFFFFF#32 ∧ s.posExists p = true ∧
        ∀ q, q ≠ p → (s.pos q).sensor ≠ some x) →
      ((s.pos p).sensor = id → exec (.writePosition r) s = .next (s.refreshIdle.answer r 0x30#8 [[0]])) ∧
      ((s.pos p).sensor ≠ id → inTruck p = true → s.grant.truckLock = true →
        exec (.writePosition r) s = .next (s.answer r 0x30#8 [[0x81#8]])) ∧
      ((s.pos p).sensor ≠ id → inTruck p = false ∨ s.grant.truckLock = false →
        ∃ t : State, t = { s with positions := t.positions, foreign := t.foreign, grant := t.grant } ∧
          t.grant = { s.grant with
            marks := s.grant.marks.set (if inTruck p = true then .t else .l) true
            idleTimer := if s.teach = none then some s.tick else s.grant.idleTimer } ∧
          t.foreign = (s.foreign.filter fun e => some e.id ≠ id) ∧
          (∀ q, q ≠ p → q ≠ partner p → t.pos q = s.pos q) ∧
          t.pos (partner p) = { s.pos (partner p) with
            live := (s.pos (partner p)).live &&& ~~~ kindMask .imbalance } ∧
          t.pos p = { Position.empty with
            sensor := id
            state := if id = none then .unassigned
              else if inTruck p = true ∨ s.trailerPresent = true then .waiting else .detached
            deadline := if id ≠ none ∧ (inTruck p = true ∨ s.trailerPresent = true) then
              some (s.tick + 6000#24) else none } ∧
          exec (.writePosition r) s = .next (t.recomputeWarn.answer r 0x30#8 [[0]])))

/-- O44. WRITE AXLE and CLEAR SECTION from the holder: with no field selected and sent nothing is written; targets
clamped; a changed kind first, the positions that stop existing reset and out of the walk, the others of the axle
kept but for an IMBALANCE shared with one that was reset, an ABSENT axle lowered; then changed targets, with one
re-evaluation; the truck lock observed (R31, R32, R62, R75, R118, R141, R154, R155, R181; Tu or Tl sent as FFFFh, the
absent code, is taken as 65,535 and clamped: the model's choice, log 31). -/
def Obligations.AxleWritesReachPositions : Prop :=
  (∀ (r : Request) (s : State) (a : AxleNo) (m : Nat), s.servesHolder r → byteAt r 0 = some a.val →
    byteAt r 1 = some m →
    (∀ k, m.testBit 0 = true → byteAt r 2 = some k → 2 < k →
      exec (.writeAxle r) s = .next (s.answer r 0x31#8 [[0x82#8]])) ∧
    (∀ k, m.testBit 0 = true → byteAt r 2 = some k → k ≤ 2 → k ≠ (s.axle a).kind.code →
      truckAxle a = true → s.grant.truckLock = true →
      exec (.writeAxle r) s = .next (s.answer r 0x31#8 [[0x81#8]])) ∧
    (∀ (kind unladen laden : Option Nat) (k : AxleKind) (x : Axle),
      kind = (if m.testBit 0 = true then byteAt r 2 else none) →
      unladen = (if m.testBit 1 = true then wordAt r 3 else none) →
      laden = (if m.testBit 2 = true then wordAt r 5 else none) →
      (kind = none ∧ unladen = none ∧ laden = none →
        exec (.writeAxle r) s = .next (s.refreshIdle.answer r 0x31#8 [[0]])) ∧
      ((kind = none ∧ k = (s.axle a).kind) ∨ kind = some k.code →
      kind ≠ none ∨ unladen ≠ none ∨ laden ≠ none →
      k = (s.axle a).kind ∨ truckAxle a = false ∨ s.grant.truckLock = false →
      x = { kind := k
            unladen := (unladen.map fun n => max 100 (min 1200 n)).getD (s.axle a).unladen
            laden := (laden.map fun n => max 100 (min 1200 n)).getD (s.axle a).laden } →
      ∃ t : State, exec (.writeAxle r) s = .next (t.answer r 0x31#8
          [[if (unladen.any fun n => n < 100 || 1200 < n) || (laden.any fun n => n < 100 || 1200 < n)
            then 1 else 0]]) ∧
        t.axle a = x ∧ (∀ b, b ≠ a → t.axle b = s.axle b) ∧
        t.grant.marks = (if x = s.axle a then s.grant.marks
          else s.grant.marks.set (if truckAxle a = true then .t else .l) true) ∧
        t.profiles = s.profiles ∧ t.settings = s.settings ∧ t.stack = s.stack ∧ t.store = s.store ∧
        t.grant.state = s.grant.state ∧
        (k = (s.axle a).kind → x ≠ s.axle a →
          t = ((s.setAxle a x).mark (if truckAxle a = true then .t else .l)).reevaluate.refreshIdle.recomputeWarn) ∧
        (k = (s.axle a).kind → x = s.axle a → t = s.refreshIdle.recomputeWarn) ∧
        (k ≠ (s.axle a).kind → ∃ s1 marked : State,
          s1 = { s.setAxle a { s.axle a with kind := k } with
            positions := s1.positions, context := s1.context, teach := s1.teach, grant := s1.grant,
            ports := s1.ports } ∧
          s1.context.load = s.context.load ∧ s1.context.ambient = s.context.ambient ∧
          (∀ b, b ≠ a → s1.lifted b = s.lifted b) ∧ (k = .absent → s1.lifted a = false) ∧
          (k ≠ .absent → s1.context = s.context) ∧ t.context = s1.context ∧ t.teach = s1.teach ∧
          (∀ p, axleOf p ≠ a → s1.pos p = s.pos p) ∧
          (∀ p, axleOf p = a → s.posExists p = true → slotExists k (slotOf p) = false →
            (s.pos p).sensor.isSome = true → s1.pos p = Position.empty ∧ t.pos p = Position.empty) ∧
          (∀ gone : Pos → Bool,
            (∀ p, gone p = decide (axleOf p = a ∧ s.posExists p = true ∧ slotExists k (slotOf p) = false)) →
            s.LeftWalk s1 gone ∧ s.LeftWalkShown s1 gone ∧
            (∀ p, axleOf p = a → gone p = false → s1.pos p = { s.pos p with
              live := if gone (partner p) = true ∧ ((s.pos (partner p)).sensor.isSome = true ∨
                  (s.pos (partner p)).state ≠ .unassigned) then
                (s.pos p).live &&& ~~~ kindMask .imbalance else (s.pos p).live }) ∧
            (∀ session, s.teach = some session → session.queue.filter (fun p => !gone p) = [] →
              s1.grant = { s.grant with idleTimer := some s.tick }) ∧
            (∀ session, s.teach = some session → session.queue.filter (fun p => !gone p) ≠ [] →
              s1.grant = s.grant) ∧
            (s.teach = none → s1.grant = s.grant)) ∧
          marked = (s1.setAxle a x).mark (if truckAxle a = true then .t else .l) ∧
          t = State.recomputeWarn (State.refreshIdle
            (if x.unladen = (s.axle a).unladen ∧ x.laden = (s.axle a).laden then marked
              else marked.reevaluate)))))) ∧
  (∀ (r : Request) (s : State) (truck : Bool), s.servesHolder r →
    byteAt r 0 = some (if truck = true then 0 else 1) →
    (truck = true → s.grant.truckLock = true →
      exec (.clearSection r) s = .next (s.answer r 0x34#8 [[0x81#8]])) ∧
    (truck = false ∨ s.grant.truckLock = false →
      ∃ t : State, exec (.clearSection r) s = .next (t.answer r 0x34#8 [[0]]) ∧
        (∀ a, truckAxle a = truck → t.axle a = { s.axle a with kind := .absent }) ∧
        (∀ a, truckAxle a ≠ truck → t.axle a = s.axle a) ∧
        (∀ p, inTruck p = truck → (s.pos p).state ≠ .unassigned → t.pos p = Position.empty) ∧
        (∀ p, inTruck p ≠ truck → t.pos p = s.pos p) ∧
        t.context = (if truck = true then { s.context with truckLifted := 0 }
          else { s.context with trailerLifted := 0 }) ∧
        s.LeftWalk t (fun p => inTruck p == truck && s.posExists p) ∧
        s.LeftWalkShown t (fun p => inTruck p == truck && s.posExists p) ∧
        t.grant.marks = (if ∀ a, truckAxle a = truck → (s.axle a).kind = .absent then s.grant.marks
          else s.grant.marks.set (if truck = true then .t else .l) true) ∧
        t.profiles = s.profiles ∧ t.settings = s.settings ∧ t.stack = s.stack ∧ t.store = s.store))

/-- O45. WRITE PROFILE from the holder: with no field selected and sent, nothing changes; else those fields replace
the record's, the whole record is clamped to the ranges of R93, uc and tc are then adjusted by R95, and the result
is stored. It is answered CLAMPED where a value was changed on the way, P is marked on a change, and a change on the
active index is re-evaluated (R93, R95, R96, R181, R186). The model's choices in it: tw and tc travel as °C + 50 and
th as a plain byte (log 18), and absent codes are the numbers they spell (log 31). -/
def Obligations.WriteProfileClampsAndAdjusts : Prop :=
  ∀ (r : Request) (s : State) (i : ProfileNo) (b : Nat) (enable uw uc ow hyst th ib lk : Option Nat)
      (tw tc : Option Int),
    s.servesHolder r → byteAt r 0 = some i.val → byteAt r 1 = some b → b / 64 < 3 →
    enable = (if b / 64 = 0 ∧ b.testBit 0 = true then wordAt r 2 else none) →
    uw = (if b / 64 = 0 ∧ b.testBit 1 = true then wordAt r 4 else none) →
    uc = (if b / 64 = 0 ∧ b.testBit 2 = true then wordAt r 6 else none) →
    ow = (if b / 64 = 1 ∧ b.testBit 0 = true then wordAt r 2 else none) →
    hyst = (if b / 64 = 1 ∧ b.testBit 1 = true then byteAt r 4 else none) →
    tw = (if b / 64 = 1 ∧ b.testBit 2 = true then (byteAt r 5).map fun n => (n : Int) - 50 else none) →
    tc = (if b / 64 = 1 ∧ b.testBit 3 = true then (byteAt r 6).map fun n => (n : Int) - 50 else none) →
    th = (if b / 64 = 1 ∧ b.testBit 4 = true then byteAt r 7 else none) →
    ib = (if b / 64 = 2 ∧ b.testBit 0 = true then wordAt r 2 else none) →
    lk = (if b / 64 = 2 ∧ b.testBit 1 = true then byteAt r 4 else none) →
    (enable = none ∧ uw = none ∧ uc = none ∧ ow = none ∧ hyst = none ∧ tw = none ∧ tc = none ∧ th = none ∧
        ib = none ∧ lk = none → exec (.writeProfile r) s = .next (s.refreshIdle.answer r 0x32#8 [[0]])) ∧
    (¬ (enable = none ∧ uw = none ∧ uc = none ∧ ow = none ∧ hyst = none ∧ tw = none ∧ tc = none ∧ th = none ∧
        ib = none ∧ lk = none) →
      ∀ (old x : Profile) (clampedUc : Nat) (clampedTc : Int), old = s.profile i →
      x.enable = (enable.map (BitVec.ofNat 10)).getD old.enable →
      x.uw = max 500 (min 990 (uw.getD old.uw)) →
      clampedUc = max 400 (min 980 (uc.getD old.uc)) →
      x.uc = (if x.uw ≤ clampedUc then x.uw - 10 else clampedUc) →
      x.ow = max 1010 (min 1500 (ow.getD old.ow)) →
      x.hyst = min 50 (hyst.getD old.hyst) →
      x.tw = max 40 (min 150 (tw.getD old.tw)) →
      clampedTc = max 45 (min 160 (tc.getD old.tc)) →
      x.tc = (if clampedTc < x.tw + 5 then x.tw + 5 else clampedTc) →
      x.th = max 1 (min 20 (th.getD old.th)) →
      x.ib = max 20 (min 300 (ib.getD old.ib)) →
      x.lk = max 5 (min 200 (lk.getD old.lk)) →
      x.Lawful ∧ x.uc < x.uw ∧ x.tw + 5 ≤ x.tc ∧
      ∃ t : State, exec (.writeProfile r) s = .next (t.answer r 0x32#8
          [[if x.uw = uw.getD old.uw ∧ clampedUc = uc.getD old.uc ∧ x.uc = clampedUc ∧ x.ow = ow.getD old.ow ∧
              x.hyst = hyst.getD old.hyst ∧ x.tw = tw.getD old.tw ∧ clampedTc = tc.getD old.tc ∧ x.tc = clampedTc ∧
              x.th = th.getD old.th ∧ x.ib = ib.getD old.ib ∧ x.lk = lk.getD old.lk then 0 else 1]]) ∧
        t.profile i = x ∧ (∀ j, j ≠ i → t.profile j = s.profile j) ∧
        (x = old → t = s.refreshIdle.recomputeWarn) ∧
        (x ≠ old → i ≠ s.activeIndex → t = ((s.setProfile i x).mark .p).refreshIdle.recomputeWarn) ∧
        (x ≠ old → i = s.activeIndex →
          t = ((s.setProfile i x).mark .p).reevaluate.refreshIdle.recomputeWarn))

/-- O46. WRITE SETTINGS from the holder: refused whole, with nothing written, exactly for a code that names
nothing; else every field selected and sent is stored, clamped to its range, and the others kept. P is marked on a
change, a changed Tref is re-evaluated, a changed flash value restarts a running pattern, and a changed period a
running period timer (R61, R63, R108, R126, R156, R175, R180, R186). -/
def Obligations.WriteSettingsResult : Prop :=
  ∀ (r : Request) (s : State) (b : Nat) (tref : Option Int)
      (tipping lamp period width load truck trailer periodA periodB orderA orderB : Option Nat),
    s.servesHolder r → byteAt r 0 = some b →
    tref = (if b < 128 ∧ b.testBit 0 = true then
      (byteAt r 1).map fun n => if n < 128 then (n : Int) else (n : Int) - 256 else none) →
    tipping = (if b < 128 ∧ b.testBit 1 = true then byteAt r 2 else none) →
    lamp = (if b < 128 ∧ b.testBit 2 = true then byteAt r 3 else none) →
    period = (if b < 128 ∧ b.testBit 3 = true then byteAt r 4 else none) →
    width = (if b < 128 ∧ b.testBit 4 = true then byteAt r 5 else none) →
    load = (if b < 128 ∧ b.testBit 5 = true then byteAt r 6 else none) →
    truck = (if b < 128 ∧ b.testBit 6 = true then byteAt r 7 else none) →
    trailer = (if 128 ≤ b ∧ b.testBit 0 = true then byteAt r 1 else none) →
    periodA = (if 128 ≤ b ∧ b.testBit 1 = true then byteAt r 2 else none) →
    periodB = (if 128 ≤ b ∧ b.testBit 2 = true then byteAt r 3 else none) →
    orderA = (if 128 ≤ b ∧ b.testBit 3 = true then byteAt r 4 else none) →
    orderB = (if 128 ≤ b ∧ b.testBit 4 = true then byteAt r 5 else none) →
    ((tipping.any fun n => 5 < n && n != 255) = true ∨ (lamp.any fun n => 3 < n) = true ∨
        (load.any fun n => 1 < n) = true ∨ (truck.any fun n => 1 < n) = true ∨ (trailer.any fun n => 1 < n) = true ∨
        (orderA.any fun n => 1 < n) = true ∨ (orderB.any fun n => 1 < n) = true →
      exec (.writeSettings r) s = .next (s.answer r 0x33#8 [[0x82#8]])) ∧
    ((tipping.any fun n => 5 < n && n != 255) = false → (lamp.any fun n => 3 < n) = false →
        (load.any fun n => 1 < n) = false → (truck.any fun n => 1 < n) = false →
        (trailer.any fun n => 1 < n) = false → (orderA.any fun n => 1 < n) = false →
        (orderB.any fun n => 1 < n) = false →
      ∃ (x : Settings) (t : State),
        x.tref = (tref.map fun n => max (-10) (min 40 n)).getD s.settings.tref ∧
        tippingCode x.tipping = tipping.getD (tippingCode s.settings.tipping) ∧
        x.lampPorts.code = lamp.getD s.settings.lampPorts.code ∧
        x.flashPeriod = (period.map fun n => max 2 (min 50 n)).getD s.settings.flashPeriod ∧
        x.flashWidth = (width.map fun n => max 1 (min 50 n)).getD s.settings.flashWidth ∧
        portCode x.loadSource = load.getD (portCode s.settings.loadSource) ∧
        portCode x.truckSource = truck.getD (portCode s.settings.truckSource) ∧
        portCode x.trailerSource = trailer.getD (portCode s.settings.trailerSource) ∧
        x.reportPeriod.a = (periodA.map fun n => max 1 (min 50 n)).getD s.settings.reportPeriod.a ∧
        x.reportPeriod.b = (periodB.map fun n => max 1 (min 50 n)).getD s.settings.reportPeriod.b ∧
        x.order.a.code = orderA.getD s.settings.order.a.code ∧
        x.order.b.code = orderB.getD s.settings.order.b.code ∧
        (s.settings.Lawful → x.Lawful) ∧
        exec (.writeSettings r) s = .next (t.answer r 0x33#8
          [[if (tref.any fun n => n < -10 || 40 < n) || (period.any fun n => n < 2 || 50 < n) ||
              (width.any fun n => n < 1 || 50 < n) || (periodA.any fun n => n < 1 || 50 < n) ||
              (periodB.any fun n => n < 1 || 50 < n) then 1 else 0]]) ∧
        t = { s with
          settings := x, grant := t.grant, ports := t.ports, positions := t.positions, warn := t.warn } ∧
        t.grant = { s.grant with
          marks := if x = s.settings then s.grant.marks else s.grant.marks.set .p true
          idleTimer := if s.teach = none then some s.tick else s.grant.idleTimer } ∧
        (x.tref = s.settings.tref → t.positions = s.positions) ∧
        (x.tref ≠ s.settings.tref → t.positions = ({ s with settings := x } : State).reevaluate.positions) ∧
        t.warn.level = levelOf t.counted ∧
        (t.warn.level = .flash → x.flashPeriod ≠ s.settings.flashPeriod ∨ x.flashWidth ≠ s.settings.flashWidth →
          t.warn.phaseStart = s.tick ∧ t.warn.high = true) ∧
        (∀ port : Port, (t.port port).periodDue =
          if x.reportPeriod.get port = s.settings.reportPeriod.get port then (s.port port).periodDue
          else (s.port port).periodDue.map fun _ => s.tick + BitVec.ofNat 24 (x.reportPeriod.get port)) ∧
        (∀ port : Port, (t.port port).mode = (s.port port).mode ∧ (t.port port).errors = (s.port port).errors ∧
          (t.port port).nextAxle = (s.port port).nextAxle ∧
          (x.tref = s.settings.tref → (t.port port).queue = (s.port port).queue ∧
            (t.port port).overflow = (s.port port).overflow) ∧
          (x.tref ≠ s.settings.tref → ∀ after : PortCtl,
            after = ({ s with settings := x } : State).reevaluate.port port →
            (t.port port).queue = after.queue ∧ (t.port port).overflow = after.overflow)))

/-- O47. LOCK TRUCK, and TEACH START and TEACH APPEND from the holder: BUSY during a session and NOT-FOUND without one,
whatever the list names, so long as it is sent whole; then a list that passes the checks, and one that is refused
(R130, R131, R132, R157). -/
def Obligations.LockAndTeachRequests : Prop :=
  ∀ (r : Request) (s : State), s.servesHolder r →
    exec (.lockTruck r) s = .next (State.answer
      { s with grant := { s.grant with
          truckLock := true
          idleTimer := if s.teach = none then some s.tick else s.grant.idleTimer } } r 0x35#8 [[0]]) ∧
    (∀ ps : List Pos, ps.length ≤ 7 → byteAt r 0 = some ps.length →
      (∀ (i : Nat) (p : Pos), ps[i]? = some p → byteAt r (i + 1) = some p.val) →
      ps ≠ [] → ps.Nodup →
      (∀ p ∈ ps, s.posExists p = true ∧ (inTruck p = true → s.grant.truckLock = false) ∧
        (inTruck p = false → s.trailerPresent = true)) →
      (ps.length ≤ 6 → s.teach = none → exec (.teachStart r) s = .next (State.answer
        { s with
          teach := some
            { owner := r.port, queue := ps, taught := [], stepDeadline := s.tick + 1200#24, count := 0 }
          grant := { s.grant with idleTimer := none } } r 0x40#8
        [[0, optPos ps.head?, byteOf ps.length]])) ∧
      (∀ session, s.teach = some session →
        (∀ p ∈ ps, p ∉ session.queue ∧ p ∉ session.taught) → session.queue.length + ps.length ≤ 32 →
        exec (.teachAppend r) s = .next (State.answer
          { s with teach := some { session with queue := session.queue ++ ps } } r 0x41#8
          [[0, optPos (session.queue ++ ps).head?, byteOf (session.queue.length + ps.length)]]))) ∧
    (∀ n : Nat, byteAt r 0 = some n → (byteAt r n).isSome = true →
      (n ≤ 6 → s.teach ≠ none → exec (.teachStart r) s = .next (s.answer r 0x40#8 [[0x83#8]])) ∧
      (n ≤ 7 → s.teach = none → exec (.teachAppend r) s = .next (s.answer r 0x41#8 [[0x85#8]]))) ∧
    (∀ (code : Byte) (codes : List Nat) (queue taught : List Pos) (c : Instr),
      (c = .teachStart r ∧ code = 0x40#8 ∧ listOperand 6 r = some codes ∧ s.teach = none ∧ queue = [] ∧ taught = []) ∨
        (c = .teachAppend r ∧ code = 0x41#8 ∧ listOperand 7 r = some codes ∧
          ∃ session, s.teach = some session ∧ queue = session.queue ∧ taught = session.taught) →
      (codes = [] ∨ (∃ n ∈ codes, 32 ≤ n) ∨ ¬ codes.Nodup ∨ 32 < queue.length + codes.length ∨
          (∃ p : Pos, p.val ∈ codes ∧ (s.posExists p = false ∨ p ∈ queue ∨ p ∈ taught ∨
            (inTruck p = false ∧ s.trailerPresent = false))) →
        exec c s = .next (s.answer r code [[0x82#8]])) ∧
      (codes ≠ [] → codes.Nodup → queue.length + codes.length ≤ 32 →
        (∀ n ∈ codes, ∃ p : Pos, p.val = n ∧ s.posExists p = true ∧ p ∉ queue ∧ p ∉ taught ∧
          (inTruck p = true ∨ s.trailerPresent = true)) →
        s.grant.truckLock = true → (∃ p : Pos, p.val ∈ codes ∧ inTruck p = true) →
        exec c s = .next (s.answer r code [[0x81#8]])))

/-- O48. STEP_DEADLINE_EXPIRY ends the session TIMEOUT and TEACH ABORT ends it ABORTED, each with its TEACH END
notice and the idle timer restarted (R133, R134, R142); an expiry that is not due does nothing (log 4). -/
def Obligations.SessionEndsByTimeoutOrAbort : Prop :=
  ∀ s : State,
    (s.teach = none → exec .stepDeadlineExpiry s = .next s) ∧
    (∀ session ended, s.teach = some session →
      (session.stepDeadline ≠ s.tick → exec .stepDeadlineExpiry s = .next s) ∧
      (session.stepDeadline = s.tick →
        ended = { s.notice 0x76#8 [1, byteOf session.count] with
          teach := none, grant := { s.grant with idleTimer := some s.tick } } →
        exec .stepDeadlineExpiry s = .next ended) ∧
      (∀ r, s.servesHolder r →
        ended = { s.notice 0x76#8 [2, byteOf session.count] with
          teach := none, grant := { s.grant with idleTimer := some s.tick } } →
        exec (.teachAbort r) s = .next (ended.answer r 0x42#8 [[0]]))) ∧
    (∀ r, s.servesHolder r → s.teach = none →
      exec (.teachAbort r) s = .next (s.answer r 0x42#8 [[0x85#8]]))

/-- O49. A trigger taken during a session, in the five cases of R135: the head's own sensor confirms it; the
sensor of a taught position, and one that the truck lock shields, move nothing; another position's sensor and a
foreign one are moved to the head (R39, R40, R135 to R139). Where the walk does not move, the sample lands as
without a session and TEACH REPEAT or TEACH LOCKED follows; where it does, the sample lands on the head as made
ready, restored from a hold or reset with the new sensor, and TEACH PROGRESS follows (R136 to R139, R143). -/
def Obligations.TeachTriggerCases : Prop :=
  ∀ (s u : State) (d : Delivery) (t : TeachSession) (h : Pos) (rest : List Pos), s.IdentityLaw →
    s.PositionLaw → s.TeachLaw → s.teach = some t → t.queue = h :: rest → d.content.kind = .trigger →
    (∀ q, (s.pos q).sensor = some d.id → stale (s.pos q) d = false) → s.deliver d = u →
    ((s.pos h).sensor = some d.id →
      s.WalkAdvanced t h rest u ∧ (∀ p, (u.pos p).sensor = (s.pos p).sensor) ∧
      (u.pos h).state = .active ∧ u.grant.marks = s.grant.marks ∧ u.foreign = s.foreign ∧
      (s.LandedFrom (if (s.pos h).state = .held then s.restoreHold h else s) d).WalkShown u t h rest d.id 1) ∧
    (∀ q, q ≠ h → (s.pos q).sensor = some d.id →
      q ∈ t.taught ∨ (s.grant.truckLock = true ∧ (inTruck q = true ∨ inTruck h = true)) →
      u.teach = s.teach ∧ (∀ p, (u.pos p).sensor = (s.pos p).sensor) ∧ u.grant = s.grant ∧
      u.foreign = s.foreign ∧
      u = ((s.LandedFrom s d).raisedOnBoth 3 3 (if q ∈ t.taught then 0x74#8 else 0x75#8) fun _ => be32 d.id ++
        [byteOf (if q ∈ t.taught ∨ inTruck q = true then q else h).val, byteOf h.val]).recomputeWarn) ∧
    (∀ q, q ≠ h → (s.pos q).sensor = some d.id → q ∉ t.taught →
      s.grant.truckLock = false ∨ (inTruck q = false ∧ inTruck h = false) →
      s.WalkAdvanced t h rest u ∧ (u.pos h).sensor = some d.id ∧ (u.pos h).state = .active ∧
      u.pos q = Position.empty ∧ (∀ p, p ≠ h → p ≠ q → (u.pos p).sensor = (s.pos p).sensor) ∧
      u.grant.marks = (s.grant.marks.set (if inTruck q = true then .t else .l) true).set
        (if inTruck h = true then .t else .l) true ∧
      ∃ ready : State, s.ReadyForSensor ready h (some q) d.id ∧
        (s.LandedFrom ready d).WalkShown u t h rest d.id 4) ∧
    ((∀ q, (s.pos q).sensor ≠ some d.id) → s.grant.truckLock = true → inTruck h = true →
      u.teach = s.teach ∧ u.positions = s.positions ∧ u.grant = s.grant ∧
      u = ((s.LandedFrom s d).raisedOnBoth 3 3 0x75#8 fun _ =>
        be32 d.id ++ [byteOf h.val, byteOf h.val]).recomputeWarn) ∧
    ((∀ q, (s.pos q).sensor ≠ some d.id) → s.grant.truckLock = false ∨ inTruck h = false →
      s.WalkAdvanced t h rest u ∧ (u.pos h).sensor = some d.id ∧ (u.pos h).state = .active ∧
      (∀ p, p ≠ h → (u.pos p).sensor = (s.pos p).sensor) ∧ (∀ e ∈ u.foreign, e.id ≠ d.id) ∧
      u.grant.marks = s.grant.marks.set (if inTruck h = true then .t else .l) true ∧
      ∃ ready : State, s.ReadyForSensor ready h none d.id ∧
        (s.LandedFrom ready d).WalkShown u t h rest d.id 5)

/-! ### Laws that every step keeps -/

/-- O50. Every step keeps the laws of the lines and of the Merge Buffer (R4, R17, section 1.1). -/
def Obligations.StepKeepsLinesAndMergeLaws : Prop :=
  ∀ s t : State, s.LinesLaw → s.MergeLaw → step s = .next t → t.LinesLaw ∧ t.MergeLaw

/-- O51. Every step keeps the law of the Foreign Sensor List (R44, R46). -/
def Obligations.StepKeepsForeignLaw : Prop :=
  ∀ s t : State, s.ForeignLaw → step s = .next t → t.ForeignLaw

/-- O52. Every step keeps sensor IDs valid, at existing positions and at one position each (R32, R35). -/
def Obligations.StepKeepsIdentityLaw : Prop :=
  ∀ s t : State, s.MergeLaw → s.TeachLaw → s.IdentityLaw → step s = .next t → t.IdentityLaw

/-- O53. Every step keeps what each position state says of the record (R34, R81, R117). -/
def Obligations.StepKeepsPositionLaw : Prop :=
  ∀ s t : State, s.PositionLaw → step s = .next t → t.PositionLaw

/-- O54. Every step keeps a capture present exactly where the latched set is not empty (R119). -/
def Obligations.StepKeepsCaptureLaw : Prop :=
  ∀ s t : State, s.CaptureLaw → step s = .next t → t.CaptureLaw

/-- O55. Every step leaves the WARN level that its live and counted latched sets imply: FLASH where a CRITICAL kind
is counted, STEADY where a WARNING kind is and no CRITICAL one, else OFF; counted are the live sets and the latched
sets of the ports that the lamp setting names (R112, R125, R126, R128). A command that
enters FLASH starts the pattern with the line high; while the level stays FLASH, only FLASH_PHASE, and WRITE
SETTINGS by its restart, move the pattern (R126, R127); on leaving FLASH the line takes the new level at once. -/
def Obligations.StepKeepsLampLaw : Prop :=
  (∀ s t : State, s.LampLaw → step s = .next t → t.LampLaw) ∧
  (∀ (c : Instr) (s t : State), exec c s = .next t →
    (s.warn.level ≠ .flash → t.warn.level = .flash → t.warn.phaseStart = s.tick ∧ t.warn.high = true) ∧
    (s.warn.level = .flash → t.warn.level = .flash → c ≠ .flashPhase → (∀ r, c ≠ .writeSettings r) →
      t.warn = s.warn) ∧
    (s.warn.level = .flash → t.warn.level = .steady → t.warn.high = true) ∧
    (s.warn.level = .flash → t.warn.level = .off → t.warn.high = false)) ∧
  (∀ (s : State) (counted : Kind → Prop), (∀ k, counted k ↔ ∃ p, hasKind (s.pos p).live k = true ∨
      (s.settings.lampPorts = .onlyA ∨ s.settings.lampPorts = .both) ∧ hasKind (s.pos p).latched.a k = true ∨
      (s.settings.lampPorts = .onlyB ∨ s.settings.lampPorts = .both) ∧ hasKind (s.pos p).latched.b k = true) →
    (levelOf s.counted = .flash ↔ counted .underC ∨ counted .leak ∨ counted .tempC) ∧
    (levelOf s.counted = .steady ↔ ¬ (counted .underC ∨ counted .leak ∨ counted .tempC) ∧
      (counted .underW ∨ counted .overW ∨ counted .tempW ∨ counted .imbalance ∨ counted .missing ∨
        counted .sensorFault)))

/-- O56. Every step keeps 1 to 3 stack entries, RESET only at the bottom, and every axle, profile, setting and
context value in its range, with no ABSENT axle lifted (R31, R58, R62, R93, R98, R156). -/
def Obligations.StepKeepsStackAndRangeLaws : Prop :=
  ∀ s t : State, s.StackLaw → s.RangeLaw → s.LiftLaw → step s = .next t →
    t.StackLaw ∧ t.RangeLaw ∧ t.LiftLaw

/-- O57. Every step keeps the laws of the teach session, the grant and the ports (R129, R145, R172, R177). -/
def Obligations.StepKeepsSessionGrantAndPortLaws : Prop :=
  ∀ s t : State, s.TeachLaw → s.GrantLaw → s.PortsLaw → step s = .next t →
    t.TeachLaw ∧ t.GrantLaw ∧ t.PortsLaw

/-! ### Rules over all commands -/

/-- O58. Only a device reset clears the truck lock, and while it is set no other command changes the sensor
ID of a truck position or the kind of a truck axle (R157). -/
def Obligations.TruckLockShieldsTruck : Prop :=
  ∀ (c : Instr) (s t : State), s.grant.truckLock = true → s.phase = .running →
    (∀ straps cut, c ≠ .deviceReset straps cut) → exec c s = .next t →
    t.grant.truckLock = true ∧
    (∀ p, inTruck p = true → (t.pos p).sensor = (s.pos p).sensor) ∧
    (∀ a, truckAxle a = true → (t.axle a).kind = (s.axle a).kind)

/-- O59. While RUNNING, axles, profiles and settings change only by an edit served on the port that holds the
grant; a sensor ID by such an edit or by a delivered trigger taken in the holder's session, which puts it at the
head of the queue or takes it away; and a revision only with the grant leaving HELD (R38, R135, R138, R144, R151). -/
def Obligations.StoredValuesChangeByHolderOnly : Prop :=
  ∀ (c : Instr) (s t : State), s.phase = .running → (∀ straps cut, c ≠ .deviceReset straps cut) →
    exec c s = .next t →
    (s.GrantLaw → ∀ p, (t.pos p).sensor ≠ (s.pos p).sensor →
      (∃ code r, requestOf c = some (code, r) ∧ code ∈ editCodes ∧ s.servesHolder r) ∨
      ∃ session e later, s.teach = some session ∧ s.grant.state = .held session.owner ∧ s.merge = e :: later ∧
        e.content.kind = .trigger ∧
        ((t.pos p).sensor = none ∨ (t.pos p).sensor = some e.id ∧ session.queue.head? = some p)) ∧
    (t.axles = s.axles ∧ t.profiles = s.profiles ∧ t.settings = s.settings ∨
      ∃ code r, requestOf c = some (code, r) ∧ code ∈ editCodes ∧ s.servesHolder r) ∧
    (t.grant.revision ≠ s.grant.revision →
      (∃ p, s.grant.state = .held p) ∧ t.grant.state = .saving)

/-- O60. What a save writes is what the next load reads: each section sealed from values in their ranges passes
its check and gives those values back. A section with a marker other than A5h or another CRC fails its check, and so
does an image with a field out of its range or a code that names no value (R158, R159, R164; the places of the
fields in an image are the model's, log 7). -/
def Obligations.SavedSectionsLoadBack : Prop :=
  (∀ s : State, s.RangeLaw → s.IdentityLaw →
    checkSection readTableImage (s.sectionImage .t) = some (s.tableValues true) ∧
    checkSection readTableImage (s.sectionImage .l) = some (s.tableValues false) ∧
    checkSection readSettingsSection (s.sectionImage .p) = some s.settingsValues) ∧
  (∀ (α : Type) (read : List Byte → Option α) (x : StoreSection),
    x.marker ≠ 0xA5#8 ∨ crc16 x.image ≠ x.crc → checkSection read x = none) ∧
  (∀ (image : List Byte) (b w : Nat → Nat), (∀ k, b k = (image.getD k 0).toNat) →
    (∀ k, w k = 256 * b k + b (k + 1)) →
    (∀ i, i < 4 → 2 < b (5 * i) ∨ w (5 * i + 1) < 100 ∨ 1200 < w (5 * i + 1) ∨ w (5 * i + 3) < 100 ∨
      1200 < w (5 * i + 3) → readTableImage image = none) ∧
    (∀ j, j < 16 → 1 < b (20 + 5 * j) ∨ b (20 + 5 * j) = 1 ∧
      (w (21 + 5 * j) = 0 ∧ w (23 + 5 * j) = 0 ∨ w (21 + 5 * j) = 65535 ∧ w (23 + 5 * j) = 65535) →
      readTableImage image = none) ∧
    (∀ o, o ∈ [0, 15, 30, 45, 60, 75] → w (o + 2) < 500 ∨ 990 < w (o + 2) ∨ w (o + 4) < 400 ∨ 980 < w (o + 4) ∨
      w (o + 6) < 1010 ∨ 1500 < w (o + 6) ∨ 50 < b (o + 8) ∨ b (o + 9) < 40 ∨ 150 < b (o + 9) ∨
      b (o + 10) < 45 ∨ 160 < b (o + 10) ∨ b (o + 11) < 1 ∨ 20 < b (o + 11) ∨ w (o + 12) < 20 ∨
      300 < w (o + 12) ∨ b (o + 14) < 5 ∨ 200 < b (o + 14) → readSettingsSection image = none) ∧
    (40 < b 90 ∧ b 90 < 246 ∨ 5 < b 91 ∧ b 91 ≠ 255 ∨ 3 < b 92 ∨ b 93 < 2 ∨ 50 < b 93 ∨ b 94 < 1 ∨ 50 < b 94 ∨
      b 95 < 1 ∨ 50 < b 95 ∨ b 96 < 1 ∨ 50 < b 96 ∨ 1 < b 97 ∨ 1 < b 98 ∨ 1 < b 99 ∨ 1 < b 100 ∨ 1 < b 101 →
      readSettingsSection image = none))
end

