-- ==== Sys2Proof/Laws/State.lean ====
section
/-! SUPPORT. The small lemmas of the state's updates: what a read gives after one element is replaced, and
one lemma per field that the update leaves alone. -/

namespace Sys2Proof.Machine

/-! ### Pairs and triples -/

@[simp] theorem PerPort.get_set_same {α : Type} (x : PerPort α) (k : Port) (v : α) :
    (x.set k v).get k = v := by cases k <;> rfl
theorem PerPort.get_set_ne {α : Type} (x : PerPort α) {k m : Port} (v : α) (h : m ≠ k) :
    (x.set k v).get m = x.get m := by cases k <;> cases m <;> first | rfl | exact absurd rfl h
@[simp] theorem PerPort.set_set {α : Type} (x : PerPort α) (k : Port) (v w : α) :
    (x.set k v).set k w = x.set k w := by cases k <;> rfl
@[simp] theorem PerPort.set_get {α : Type} (x : PerPort α) (k : Port) : x.set k (x.get k) = x := by
  cases k <;> rfl
theorem PerPort.ext_get {α : Type} {x y : PerPort α} (h : ∀ k, x.get k = y.get k) : x = y := by
  cases x; cases y; cases h .a; cases h .b; rfl

@[simp] theorem PerSection.get_set_same {α : Type} (x : PerSection α) (k : SectionName) (v : α) :
    (x.set k v).get k = v := by cases k <;> rfl
theorem PerSection.get_set_ne {α : Type} (x : PerSection α) {k m : SectionName} (v : α) (h : m ≠ k) :
    (x.set k v).get m = x.get m := by cases k <;> cases m <;> first | rfl | exact absurd rfl h
@[simp] theorem PerSection.set_set {α : Type} (x : PerSection α) (k : SectionName) (v w : α) :
    (x.set k v).set k w = x.set k w := by cases k <;> rfl
@[simp] theorem PerSection.set_get {α : Type} (x : PerSection α) (k : SectionName) : x.set k (x.get k) = x := by
  cases k <;> rfl
theorem PerSection.ext_get {α : Type} {x y : PerSection α} (h : ∀ k, x.get k = y.get k) : x = y := by
  cases x; cases y; cases h .t; cases h .l; cases h .p; rfl

@[simp] theorem PerPort.get_both {α : Type} (v : α) (k : Port) : (PerPort.both v).get k = v := by
  cases k <;> rfl

/-! ### A line's updates -/

@[simp] theorem Line.startGap_assembly (x : Line) (now : Tick) : (x.startGap now).assembly = x.assembly := rfl
@[simp] theorem Line.startGap_store (x : Line) (now : Tick) : (x.startGap now).store = x.store := rfl
@[simp] theorem Line.startGap_gapTimer (x : Line) (now : Tick) : (x.startGap now).gapTimer = some now := rfl
@[simp] theorem Line.startGap_gapRuns (x : Line) (now : Tick) : (x.startGap now).gapRuns = x.gapRuns + 1 := rfl
@[simp] theorem Line.startGap_framing (x : Line) (now : Tick) : (x.startGap now).framing = x.framing := rfl
@[simp] theorem Line.startGap_check (x : Line) (now : Tick) : (x.startGap now).check = x.check := rfl
@[simp] theorem Line.startGap_crc (x : Line) (now : Tick) : (x.startGap now).crc = x.crc := rfl
@[simp] theorem Line.startGap_ident (x : Line) (now : Tick) : (x.startGap now).ident = x.ident := rfl
@[simp] theorem Line.abandon_assembly (x : Line) : x.abandon.assembly = .hunt := rfl
@[simp] theorem Line.abandon_store (x : Line) : x.abandon.store = [] := rfl
@[simp] theorem Line.abandon_gapTimer (x : Line) : x.abandon.gapTimer = none := rfl
@[simp] theorem Line.abandon_gapRuns (x : Line) : x.abandon.gapRuns = x.gapRuns := rfl
@[simp] theorem Line.abandon_framing (x : Line) : x.abandon.framing = countUp x.framing := rfl
@[simp] theorem Line.restart_gapRuns (x : Line) : x.restart.gapRuns = x.gapRuns := rfl

/-! ### The element replaced -/

@[simp] theorem State.pos_setPos_same (s : State) (k : Pos) (x : Position) : (s.setPos k x).pos k = x := by
  simp [State.pos, State.setPos]
theorem State.pos_setPos_ne (s : State) {k m : Pos} (x : Position) (h : m ≠ k) :
    (s.setPos k x).pos m = s.pos m := by
  simp only [State.pos, State.setPos]
  exact Vector.getElem_set_ne _ _ (fun e => h (Fin.ext e.symm))
theorem State.pos_setPos (s : State) (k m : Pos) (x : Position) :
    (s.setPos k x).pos m = if m = k then x else s.pos m := by
  split
  · rename_i h; subst h; exact s.pos_setPos_same m x
  · rename_i h; exact s.pos_setPos_ne x h
theorem positions_ext {s t : State} (h : ∀ k, s.pos k = t.pos k) : s.positions = t.positions :=
  Vector.ext fun i hi => h ⟨i, hi⟩

@[simp] theorem State.axle_setAxle_same (s : State) (k : AxleNo) (x : Axle) : (s.setAxle k x).axle k = x := by
  simp [State.axle, State.setAxle]
theorem State.axle_setAxle_ne (s : State) {k m : AxleNo} (x : Axle) (h : m ≠ k) :
    (s.setAxle k x).axle m = s.axle m := by
  simp only [State.axle, State.setAxle]
  exact Vector.getElem_set_ne _ _ (fun e => h (Fin.ext e.symm))
theorem State.axle_setAxle (s : State) (k m : AxleNo) (x : Axle) :
    (s.setAxle k x).axle m = if m = k then x else s.axle m := by
  split
  · rename_i h; subst h; exact s.axle_setAxle_same m x
  · rename_i h; exact s.axle_setAxle_ne x h
theorem axles_ext {s t : State} (h : ∀ k, s.axle k = t.axle k) : s.axles = t.axles :=
  Vector.ext fun i hi => h ⟨i, hi⟩

@[simp] theorem State.line_setLine_same (s : State) (k : Fin 4) (x : Line) : (s.setLine k x).line k = x := by
  simp [State.line, State.setLine]
theorem State.line_setLine_ne (s : State) {k m : Fin 4} (x : Line) (h : m ≠ k) :
    (s.setLine k x).line m = s.line m := by
  simp only [State.line, State.setLine]
  exact Vector.getElem_set_ne _ _ (fun e => h (Fin.ext e.symm))
theorem State.line_setLine (s : State) (k m : Fin 4) (x : Line) :
    (s.setLine k x).line m = if m = k then x else s.line m := by
  split
  · rename_i h; subst h; exact s.line_setLine_same m x
  · rename_i h; exact s.line_setLine_ne x h
theorem lines_ext {s t : State} (h : ∀ k, s.line k = t.line k) : s.lines = t.lines :=
  Vector.ext fun i hi => h ⟨i, hi⟩

@[simp] theorem State.profile_setProfile_same (s : State) (k : ProfileNo) (x : Profile) : (s.setProfile k x).profile k = x := by
  simp [State.profile, State.setProfile]
theorem State.profile_setProfile_ne (s : State) {k m : ProfileNo} (x : Profile) (h : m ≠ k) :
    (s.setProfile k x).profile m = s.profile m := by
  simp only [State.profile, State.setProfile]
  exact Vector.getElem_set_ne _ _ (fun e => h (Fin.ext e.symm))
theorem State.profile_setProfile (s : State) (k m : ProfileNo) (x : Profile) :
    (s.setProfile k x).profile m = if m = k then x else s.profile m := by
  split
  · rename_i h; subst h; exact s.profile_setProfile_same m x
  · rename_i h; exact s.profile_setProfile_ne x h
theorem profiles_ext {s t : State} (h : ∀ k, s.profile k = t.profile k) : s.profiles = t.profiles :=
  Vector.ext fun i hi => h ⟨i, hi⟩

@[simp] theorem State.port_setPort_same (s : State) (k : Port) (c : PortCtl) : (s.setPort k c).port k = c :=
  PerPort.get_set_same s.ports k c
theorem State.port_setPort_ne (s : State) {k m : Port} (c : PortCtl) (h : m ≠ k) :
    (s.setPort k c).port m = s.port m := PerPort.get_set_ne s.ports c h
@[simp] theorem State.setPort_setPort (s : State) (k : Port) (c d : PortCtl) :
    (s.setPort k c).setPort k d = s.setPort k d := by simp [State.setPort]
@[simp] theorem State.pos_mapPos (s : State) (f : Pos → Position → Position) (p : Pos) :
    (s.mapPos f).pos p = f p (s.pos p) := by simp [State.pos, State.mapPos]
theorem State.pos_modifyPos (s : State) (p q : Pos) (f : Position → Position) :
    (s.modifyPos p f).pos q = if q = p then f (s.pos p) else s.pos q := s.pos_setPos p q (f (s.pos p))
theorem ports_ext {s t : State} (h : ∀ k, s.port k = t.port k) : s.ports = t.ports := PerPort.ext_get h

/-! ### The fields left alone -/

@[simp] theorem State.setPos_pending (s : State) (p : Pos) (x : Position) : (s.setPos p x).pending = s.pending :=
  rfl
@[simp] theorem State.setPos_phase (s : State) (p : Pos) (x : Position) : (s.setPos p x).phase = s.phase :=
  rfl
@[simp] theorem State.setPos_tick (s : State) (p : Pos) (x : Position) : (s.setPos p x).tick = s.tick := rfl
@[simp] theorem State.setPos_straps (s : State) (p : Pos) (x : Position) : (s.setPos p x).straps = s.straps :=
  rfl
@[simp] theorem State.setPos_trl (s : State) (p : Pos) (x : Position) : (s.setPos p x).trl = s.trl := rfl
@[simp] theorem State.setPos_body (s : State) (p : Pos) (x : Position) : (s.setPos p x).body = s.body := rfl
@[simp] theorem State.setPos_lines (s : State) (p : Pos) (x : Position) : (s.setPos p x).lines = s.lines :=
  rfl
@[simp] theorem State.setPos_merge (s : State) (p : Pos) (x : Position) : (s.setPos p x).merge = s.merge :=
  rfl
@[simp] theorem State.setPos_axles (s : State) (p : Pos) (x : Position) : (s.setPos p x).axles = s.axles :=
  rfl
@[simp] theorem State.setPos_foreign (s : State) (p : Pos) (x : Position) : (s.setPos p x).foreign = s.foreign :=
  rfl
@[simp] theorem State.setPos_trailerPresent (s : State) (p : Pos) (x : Position) : (s.setPos p x).trailerPresent = s.trailerPresent :=
  rfl
@[simp] theorem State.setPos_trlTimer (s : State) (p : Pos) (x : Position) : (s.setPos p x).trlTimer = s.trlTimer :=
  rfl
@[simp] theorem State.setPos_context (s : State) (p : Pos) (x : Position) : (s.setPos p x).context = s.context :=
  rfl
@[simp] theorem State.setPos_profiles (s : State) (p : Pos) (x : Position) : (s.setPos p x).profiles = s.profiles :=
  rfl
@[simp] theorem State.setPos_stack (s : State) (p : Pos) (x : Position) : (s.setPos p x).stack = s.stack :=
  rfl
@[simp] theorem State.setPos_bodyState (s : State) (p : Pos) (x : Position) : (s.setPos p x).bodyState = s.bodyState :=
  rfl
@[simp] theorem State.setPos_bodyTimer (s : State) (p : Pos) (x : Position) : (s.setPos p x).bodyTimer = s.bodyTimer :=
  rfl
@[simp] theorem State.setPos_settings (s : State) (p : Pos) (x : Position) : (s.setPos p x).settings = s.settings :=
  rfl
@[simp] theorem State.setPos_warn (s : State) (p : Pos) (x : Position) : (s.setPos p x).warn = s.warn := rfl
@[simp] theorem State.setPos_teach (s : State) (p : Pos) (x : Position) : (s.setPos p x).teach = s.teach :=
  rfl
@[simp] theorem State.setPos_grant (s : State) (p : Pos) (x : Position) : (s.setPos p x).grant = s.grant :=
  rfl
@[simp] theorem State.setPos_store (s : State) (p : Pos) (x : Position) : (s.setPos p x).store = s.store :=
  rfl
@[simp] theorem State.setPos_flags (s : State) (p : Pos) (x : Position) : (s.setPos p x).flags = s.flags :=
  rfl
@[simp] theorem State.setPos_ports (s : State) (p : Pos) (x : Position) : (s.setPos p x).ports = s.ports :=
  rfl
@[simp] theorem State.setPos_axle (s : State) (p : Pos) (x : Position) (b : AxleNo) : (s.setPos p x).axle b = s.axle b :=
  rfl
@[simp] theorem State.setPos_line (s : State) (p : Pos) (x : Position) (j : Fin 4) : (s.setPos p x).line j = s.line j :=
  rfl
@[simp] theorem State.setPos_port (s : State) (p : Pos) (x : Position) (o : Port) : (s.setPos p x).port o = s.port o :=
  rfl
@[simp] theorem State.setPos_profile (s : State) (p : Pos) (x : Position) (n : ProfileNo) : (s.setPos p x).profile n = s.profile n :=
  rfl

@[simp] theorem State.mapPos_pending (s : State) (f : Pos → Position → Position) : (s.mapPos f).pending = s.pending :=
  by simp only [State.mapPos]
@[simp] theorem State.mapPos_phase (s : State) (f : Pos → Position → Position) : (s.mapPos f).phase = s.phase :=
  by simp only [State.mapPos]
@[simp] theorem State.mapPos_tick (s : State) (f : Pos → Position → Position) : (s.mapPos f).tick = s.tick :=
  by simp only [State.mapPos]
@[simp] theorem State.mapPos_straps (s : State) (f : Pos → Position → Position) : (s.mapPos f).straps = s.straps :=
  by simp only [State.mapPos]
@[simp] theorem State.mapPos_trl (s : State) (f : Pos → Position → Position) : (s.mapPos f).trl = s.trl :=
  by simp only [State.mapPos]
@[simp] theorem State.mapPos_body (s : State) (f : Pos → Position → Position) : (s.mapPos f).body = s.body :=
  by simp only [State.mapPos]
@[simp] theorem State.mapPos_lines (s : State) (f : Pos → Position → Position) : (s.mapPos f).lines = s.lines :=
  by simp only [State.mapPos]
@[simp] theorem State.mapPos_merge (s : State) (f : Pos → Position → Position) : (s.mapPos f).merge = s.merge :=
  by simp only [State.mapPos]
@[simp] theorem State.mapPos_axles (s : State) (f : Pos → Position → Position) : (s.mapPos f).axles = s.axles :=
  by simp only [State.mapPos]
@[simp] theorem State.mapPos_foreign (s : State) (f : Pos → Position → Position) : (s.mapPos f).foreign = s.foreign :=
  by simp only [State.mapPos]
@[simp] theorem State.mapPos_trailerPresent (s : State) (f : Pos → Position → Position) : (s.mapPos f).trailerPresent = s.trailerPresent :=
  by simp only [State.mapPos]
@[simp] theorem State.mapPos_trlTimer (s : State) (f : Pos → Position → Position) : (s.mapPos f).trlTimer = s.trlTimer :=
  by simp only [State.mapPos]
@[simp] theorem State.mapPos_context (s : State) (f : Pos → Position → Position) : (s.mapPos f).context = s.context :=
  by simp only [State.mapPos]
@[simp] theorem State.mapPos_profiles (s : State) (f : Pos → Position → Position) : (s.mapPos f).profiles = s.profiles :=
  by simp only [State.mapPos]
@[simp] theorem State.mapPos_stack (s : State) (f : Pos → Position → Position) : (s.mapPos f).stack = s.stack :=
  by simp only [State.mapPos]
@[simp] theorem State.mapPos_bodyState (s : State) (f : Pos → Position → Position) : (s.mapPos f).bodyState = s.bodyState :=
  by simp only [State.mapPos]
@[simp] theorem State.mapPos_bodyTimer (s : State) (f : Pos → Position → Position) : (s.mapPos f).bodyTimer = s.bodyTimer :=
  by simp only [State.mapPos]
@[simp] theorem State.mapPos_settings (s : State) (f : Pos → Position → Position) : (s.mapPos f).settings = s.settings :=
  by simp only [State.mapPos]
@[simp] theorem State.mapPos_warn (s : State) (f : Pos → Position → Position) : (s.mapPos f).warn = s.warn :=
  by simp only [State.mapPos]
@[simp] theorem State.mapPos_teach (s : State) (f : Pos → Position → Position) : (s.mapPos f).teach = s.teach :=
  by simp only [State.mapPos]
@[simp] theorem State.mapPos_grant (s : State) (f : Pos → Position → Position) : (s.mapPos f).grant = s.grant :=
  by simp only [State.mapPos]
@[simp] theorem State.mapPos_store (s : State) (f : Pos → Position → Position) : (s.mapPos f).store = s.store :=
  by simp only [State.mapPos]
@[simp] theorem State.mapPos_flags (s : State) (f : Pos → Position → Position) : (s.mapPos f).flags = s.flags :=
  by simp only [State.mapPos]
@[simp] theorem State.mapPos_ports (s : State) (f : Pos → Position → Position) : (s.mapPos f).ports = s.ports :=
  by simp only [State.mapPos]
@[simp] theorem State.mapPos_axle (s : State) (f : Pos → Position → Position) (b : AxleNo) : (s.mapPos f).axle b = s.axle b :=
  by simp only [State.mapPos, State.axle]
@[simp] theorem State.mapPos_line (s : State) (f : Pos → Position → Position) (j : Fin 4) : (s.mapPos f).line j = s.line j :=
  by simp only [State.mapPos, State.line]
@[simp] theorem State.mapPos_port (s : State) (f : Pos → Position → Position) (o : Port) : (s.mapPos f).port o = s.port o :=
  by simp only [State.mapPos, State.port]
@[simp] theorem State.mapPos_profile (s : State) (f : Pos → Position → Position) (n : ProfileNo) : (s.mapPos f).profile n = s.profile n :=
  by simp only [State.mapPos, State.profile]

@[simp] theorem State.setAxle_pending (s : State) (a : AxleNo) (x : Axle) : (s.setAxle a x).pending = s.pending :=
  rfl
@[simp] theorem State.setAxle_phase (s : State) (a : AxleNo) (x : Axle) : (s.setAxle a x).phase = s.phase :=
  rfl
@[simp] theorem State.setAxle_tick (s : State) (a : AxleNo) (x : Axle) : (s.setAxle a x).tick = s.tick := rfl
@[simp] theorem State.setAxle_straps (s : State) (a : AxleNo) (x : Axle) : (s.setAxle a x).straps = s.straps :=
  rfl
@[simp] theorem State.setAxle_trl (s : State) (a : AxleNo) (x : Axle) : (s.setAxle a x).trl = s.trl := rfl
@[simp] theorem State.setAxle_body (s : State) (a : AxleNo) (x : Axle) : (s.setAxle a x).body = s.body := rfl
@[simp] theorem State.setAxle_lines (s : State) (a : AxleNo) (x : Axle) : (s.setAxle a x).lines = s.lines :=
  rfl
@[simp] theorem State.setAxle_merge (s : State) (a : AxleNo) (x : Axle) : (s.setAxle a x).merge = s.merge :=
  rfl
@[simp] theorem State.setAxle_positions (s : State) (a : AxleNo) (x : Axle) : (s.setAxle a x).positions = s.positions :=
  rfl
@[simp] theorem State.setAxle_foreign (s : State) (a : AxleNo) (x : Axle) : (s.setAxle a x).foreign = s.foreign :=
  rfl
@[simp] theorem State.setAxle_trailerPresent (s : State) (a : AxleNo) (x : Axle) : (s.setAxle a x).trailerPresent = s.trailerPresent :=
  rfl
@[simp] theorem State.setAxle_trlTimer (s : State) (a : AxleNo) (x : Axle) : (s.setAxle a x).trlTimer = s.trlTimer :=
  rfl
@[simp] theorem State.setAxle_context (s : State) (a : AxleNo) (x : Axle) : (s.setAxle a x).context = s.context :=
  rfl
@[simp] theorem State.setAxle_profiles (s : State) (a : AxleNo) (x : Axle) : (s.setAxle a x).profiles = s.profiles :=
  rfl
@[simp] theorem State.setAxle_stack (s : State) (a : AxleNo) (x : Axle) : (s.setAxle a x).stack = s.stack :=
  rfl
@[simp] theorem State.setAxle_bodyState (s : State) (a : AxleNo) (x : Axle) : (s.setAxle a x).bodyState = s.bodyState :=
  rfl
@[simp] theorem State.setAxle_bodyTimer (s : State) (a : AxleNo) (x : Axle) : (s.setAxle a x).bodyTimer = s.bodyTimer :=
  rfl
@[simp] theorem State.setAxle_settings (s : State) (a : AxleNo) (x : Axle) : (s.setAxle a x).settings = s.settings :=
  rfl
@[simp] theorem State.setAxle_warn (s : State) (a : AxleNo) (x : Axle) : (s.setAxle a x).warn = s.warn := rfl
@[simp] theorem State.setAxle_teach (s : State) (a : AxleNo) (x : Axle) : (s.setAxle a x).teach = s.teach :=
  rfl
@[simp] theorem State.setAxle_grant (s : State) (a : AxleNo) (x : Axle) : (s.setAxle a x).grant = s.grant :=
  rfl
@[simp] theorem State.setAxle_store (s : State) (a : AxleNo) (x : Axle) : (s.setAxle a x).store = s.store :=
  rfl
@[simp] theorem State.setAxle_flags (s : State) (a : AxleNo) (x : Axle) : (s.setAxle a x).flags = s.flags :=
  rfl
@[simp] theorem State.setAxle_ports (s : State) (a : AxleNo) (x : Axle) : (s.setAxle a x).ports = s.ports :=
  rfl
@[simp] theorem State.setAxle_pos (s : State) (a : AxleNo) (x : Axle) (q : Pos) : (s.setAxle a x).pos q = s.pos q :=
  rfl
@[simp] theorem State.setAxle_line (s : State) (a : AxleNo) (x : Axle) (j : Fin 4) : (s.setAxle a x).line j = s.line j :=
  rfl
@[simp] theorem State.setAxle_port (s : State) (a : AxleNo) (x : Axle) (o : Port) : (s.setAxle a x).port o = s.port o :=
  rfl
@[simp] theorem State.setAxle_profile (s : State) (a : AxleNo) (x : Axle) (n : ProfileNo) : (s.setAxle a x).profile n = s.profile n :=
  rfl

@[simp] theorem State.setLine_pending (s : State) (i : Fin 4) (x : Line) : (s.setLine i x).pending = s.pending :=
  rfl
@[simp] theorem State.setLine_phase (s : State) (i : Fin 4) (x : Line) : (s.setLine i x).phase = s.phase :=
  rfl
@[simp] theorem State.setLine_tick (s : State) (i : Fin 4) (x : Line) : (s.setLine i x).tick = s.tick := rfl
@[simp] theorem State.setLine_straps (s : State) (i : Fin 4) (x : Line) : (s.setLine i x).straps = s.straps :=
  rfl
@[simp] theorem State.setLine_trl (s : State) (i : Fin 4) (x : Line) : (s.setLine i x).trl = s.trl := rfl
@[simp] theorem State.setLine_body (s : State) (i : Fin 4) (x : Line) : (s.setLine i x).body = s.body := rfl
@[simp] theorem State.setLine_merge (s : State) (i : Fin 4) (x : Line) : (s.setLine i x).merge = s.merge :=
  rfl
@[simp] theorem State.setLine_axles (s : State) (i : Fin 4) (x : Line) : (s.setLine i x).axles = s.axles :=
  rfl
@[simp] theorem State.setLine_positions (s : State) (i : Fin 4) (x : Line) : (s.setLine i x).positions = s.positions :=
  rfl
@[simp] theorem State.setLine_foreign (s : State) (i : Fin 4) (x : Line) : (s.setLine i x).foreign = s.foreign :=
  rfl
@[simp] theorem State.setLine_trailerPresent (s : State) (i : Fin 4) (x : Line) : (s.setLine i x).trailerPresent = s.trailerPresent :=
  rfl
@[simp] theorem State.setLine_trlTimer (s : State) (i : Fin 4) (x : Line) : (s.setLine i x).trlTimer = s.trlTimer :=
  rfl
@[simp] theorem State.setLine_context (s : State) (i : Fin 4) (x : Line) : (s.setLine i x).context = s.context :=
  rfl
@[simp] theorem State.setLine_profiles (s : State) (i : Fin 4) (x : Line) : (s.setLine i x).profiles = s.profiles :=
  rfl
@[simp] theorem State.setLine_stack (s : State) (i : Fin 4) (x : Line) : (s.setLine i x).stack = s.stack :=
  rfl
@[simp] theorem State.setLine_bodyState (s : State) (i : Fin 4) (x : Line) : (s.setLine i x).bodyState = s.bodyState :=
  rfl
@[simp] theorem State.setLine_bodyTimer (s : State) (i : Fin 4) (x : Line) : (s.setLine i x).bodyTimer = s.bodyTimer :=
  rfl
@[simp] theorem State.setLine_settings (s : State) (i : Fin 4) (x : Line) : (s.setLine i x).settings = s.settings :=
  rfl
@[simp] theorem State.setLine_warn (s : State) (i : Fin 4) (x : Line) : (s.setLine i x).warn = s.warn := rfl
@[simp] theorem State.setLine_teach (s : State) (i : Fin 4) (x : Line) : (s.setLine i x).teach = s.teach :=
  rfl
@[simp] theorem State.setLine_grant (s : State) (i : Fin 4) (x : Line) : (s.setLine i x).grant = s.grant :=
  rfl
@[simp] theorem State.setLine_store (s : State) (i : Fin 4) (x : Line) : (s.setLine i x).store = s.store :=
  rfl
@[simp] theorem State.setLine_flags (s : State) (i : Fin 4) (x : Line) : (s.setLine i x).flags = s.flags :=
  rfl
@[simp] theorem State.setLine_ports (s : State) (i : Fin 4) (x : Line) : (s.setLine i x).ports = s.ports :=
  rfl
@[simp] theorem State.setLine_pos (s : State) (i : Fin 4) (x : Line) (q : Pos) : (s.setLine i x).pos q = s.pos q :=
  rfl
@[simp] theorem State.setLine_axle (s : State) (i : Fin 4) (x : Line) (b : AxleNo) : (s.setLine i x).axle b = s.axle b :=
  rfl
@[simp] theorem State.setLine_port (s : State) (i : Fin 4) (x : Line) (o : Port) : (s.setLine i x).port o = s.port o :=
  rfl
@[simp] theorem State.setLine_profile (s : State) (i : Fin 4) (x : Line) (n : ProfileNo) : (s.setLine i x).profile n = s.profile n :=
  rfl

@[simp] theorem State.setPort_pending (s : State) (p : Port) (c : PortCtl) : (s.setPort p c).pending = s.pending :=
  rfl
@[simp] theorem State.setPort_phase (s : State) (p : Port) (c : PortCtl) : (s.setPort p c).phase = s.phase :=
  rfl
@[simp] theorem State.setPort_tick (s : State) (p : Port) (c : PortCtl) : (s.setPort p c).tick = s.tick := rfl
@[simp] theorem State.setPort_straps (s : State) (p : Port) (c : PortCtl) : (s.setPort p c).straps = s.straps :=
  rfl
@[simp] theorem State.setPort_trl (s : State) (p : Port) (c : PortCtl) : (s.setPort p c).trl = s.trl := rfl
@[simp] theorem State.setPort_body (s : State) (p : Port) (c : PortCtl) : (s.setPort p c).body = s.body := rfl
@[simp] theorem State.setPort_lines (s : State) (p : Port) (c : PortCtl) : (s.setPort p c).lines = s.lines :=
  rfl
@[simp] theorem State.setPort_merge (s : State) (p : Port) (c : PortCtl) : (s.setPort p c).merge = s.merge :=
  rfl
@[simp] theorem State.setPort_axles (s : State) (p : Port) (c : PortCtl) : (s.setPort p c).axles = s.axles :=
  rfl
@[simp] theorem State.setPort_positions (s : State) (p : Port) (c : PortCtl) : (s.setPort p c).positions = s.positions :=
  rfl
@[simp] theorem State.setPort_foreign (s : State) (p : Port) (c : PortCtl) : (s.setPort p c).foreign = s.foreign :=
  rfl
@[simp] theorem State.setPort_trailerPresent (s : State) (p : Port) (c : PortCtl) : (s.setPort p c).trailerPresent = s.trailerPresent :=
  rfl
@[simp] theorem State.setPort_trlTimer (s : State) (p : Port) (c : PortCtl) : (s.setPort p c).trlTimer = s.trlTimer :=
  rfl
@[simp] theorem State.setPort_context (s : State) (p : Port) (c : PortCtl) : (s.setPort p c).context = s.context :=
  rfl
@[simp] theorem State.setPort_profiles (s : State) (p : Port) (c : PortCtl) : (s.setPort p c).profiles = s.profiles :=
  rfl
@[simp] theorem State.setPort_stack (s : State) (p : Port) (c : PortCtl) : (s.setPort p c).stack = s.stack :=
  rfl
@[simp] theorem State.setPort_bodyState (s : State) (p : Port) (c : PortCtl) : (s.setPort p c).bodyState = s.bodyState :=
  rfl
@[simp] theorem State.setPort_bodyTimer (s : State) (p : Port) (c : PortCtl) : (s.setPort p c).bodyTimer = s.bodyTimer :=
  rfl
@[simp] theorem State.setPort_settings (s : State) (p : Port) (c : PortCtl) : (s.setPort p c).settings = s.settings :=
  rfl
@[simp] theorem State.setPort_warn (s : State) (p : Port) (c : PortCtl) : (s.setPort p c).warn = s.warn := rfl
@[simp] theorem State.setPort_teach (s : State) (p : Port) (c : PortCtl) : (s.setPort p c).teach = s.teach :=
  rfl
@[simp] theorem State.setPort_grant (s : State) (p : Port) (c : PortCtl) : (s.setPort p c).grant = s.grant :=
  rfl
@[simp] theorem State.setPort_store (s : State) (p : Port) (c : PortCtl) : (s.setPort p c).store = s.store :=
  rfl
@[simp] theorem State.setPort_flags (s : State) (p : Port) (c : PortCtl) : (s.setPort p c).flags = s.flags :=
  rfl
@[simp] theorem State.setPort_pos (s : State) (p : Port) (c : PortCtl) (q : Pos) : (s.setPort p c).pos q = s.pos q :=
  rfl
@[simp] theorem State.setPort_axle (s : State) (p : Port) (c : PortCtl) (b : AxleNo) : (s.setPort p c).axle b = s.axle b :=
  rfl
@[simp] theorem State.setPort_line (s : State) (p : Port) (c : PortCtl) (j : Fin 4) : (s.setPort p c).line j = s.line j :=
  rfl
@[simp] theorem State.setPort_profile (s : State) (p : Port) (c : PortCtl) (n : ProfileNo) : (s.setPort p c).profile n = s.profile n :=
  rfl

@[simp] theorem State.setProfile_pending (s : State) (i : ProfileNo) (x : Profile) : (s.setProfile i x).pending = s.pending :=
  rfl
@[simp] theorem State.setProfile_phase (s : State) (i : ProfileNo) (x : Profile) : (s.setProfile i x).phase = s.phase :=
  rfl
@[simp] theorem State.setProfile_tick (s : State) (i : ProfileNo) (x : Profile) : (s.setProfile i x).tick = s.tick :=
  rfl
@[simp] theorem State.setProfile_straps (s : State) (i : ProfileNo) (x : Profile) : (s.setProfile i x).straps = s.straps :=
  rfl
@[simp] theorem State.setProfile_trl (s : State) (i : ProfileNo) (x : Profile) : (s.setProfile i x).trl = s.trl :=
  rfl
@[simp] theorem State.setProfile_body (s : State) (i : ProfileNo) (x : Profile) : (s.setProfile i x).body = s.body :=
  rfl
@[simp] theorem State.setProfile_lines (s : State) (i : ProfileNo) (x : Profile) : (s.setProfile i x).lines = s.lines :=
  rfl
@[simp] theorem State.setProfile_merge (s : State) (i : ProfileNo) (x : Profile) : (s.setProfile i x).merge = s.merge :=
  rfl
@[simp] theorem State.setProfile_axles (s : State) (i : ProfileNo) (x : Profile) : (s.setProfile i x).axles = s.axles :=
  rfl
@[simp] theorem State.setProfile_positions (s : State) (i : ProfileNo) (x : Profile) : (s.setProfile i x).positions = s.positions :=
  rfl
@[simp] theorem State.setProfile_foreign (s : State) (i : ProfileNo) (x : Profile) : (s.setProfile i x).foreign = s.foreign :=
  rfl
@[simp] theorem State.setProfile_trailerPresent (s : State) (i : ProfileNo) (x : Profile) : (s.setProfile i x).trailerPresent = s.trailerPresent :=
  rfl
@[simp] theorem State.setProfile_trlTimer (s : State) (i : ProfileNo) (x : Profile) : (s.setProfile i x).trlTimer = s.trlTimer :=
  rfl
@[simp] theorem State.setProfile_context (s : State) (i : ProfileNo) (x : Profile) : (s.setProfile i x).context = s.context :=
  rfl
@[simp] theorem State.setProfile_stack (s : State) (i : ProfileNo) (x : Profile) : (s.setProfile i x).stack = s.stack :=
  rfl
@[simp] theorem State.setProfile_bodyState (s : State) (i : ProfileNo) (x : Profile) : (s.setProfile i x).bodyState = s.bodyState :=
  rfl
@[simp] theorem State.setProfile_bodyTimer (s : State) (i : ProfileNo) (x : Profile) : (s.setProfile i x).bodyTimer = s.bodyTimer :=
  rfl
@[simp] theorem State.setProfile_settings (s : State) (i : ProfileNo) (x : Profile) : (s.setProfile i x).settings = s.settings :=
  rfl
@[simp] theorem State.setProfile_warn (s : State) (i : ProfileNo) (x : Profile) : (s.setProfile i x).warn = s.warn :=
  rfl
@[simp] theorem State.setProfile_teach (s : State) (i : ProfileNo) (x : Profile) : (s.setProfile i x).teach = s.teach :=
  rfl
@[simp] theorem State.setProfile_grant (s : State) (i : ProfileNo) (x : Profile) : (s.setProfile i x).grant = s.grant :=
  rfl
@[simp] theorem State.setProfile_store (s : State) (i : ProfileNo) (x : Profile) : (s.setProfile i x).store = s.store :=
  rfl
@[simp] theorem State.setProfile_flags (s : State) (i : ProfileNo) (x : Profile) : (s.setProfile i x).flags = s.flags :=
  rfl
@[simp] theorem State.setProfile_ports (s : State) (i : ProfileNo) (x : Profile) : (s.setProfile i x).ports = s.ports :=
  rfl
@[simp] theorem State.setProfile_pos (s : State) (i : ProfileNo) (x : Profile) (q : Pos) : (s.setProfile i x).pos q = s.pos q :=
  rfl
@[simp] theorem State.setProfile_axle (s : State) (i : ProfileNo) (x : Profile) (b : AxleNo) : (s.setProfile i x).axle b = s.axle b :=
  rfl
@[simp] theorem State.setProfile_line (s : State) (i : ProfileNo) (x : Profile) (j : Fin 4) : (s.setProfile i x).line j = s.line j :=
  rfl
@[simp] theorem State.setProfile_port (s : State) (i : ProfileNo) (x : Profile) (o : Port) : (s.setProfile i x).port o = s.port o :=
  rfl

end Sys2Proof.Machine
end

