-- ==== Sys2Proof/Laws/Ops.lean ====
section
/-! SUPPORT. What each shared operation can do, said once: transmit queues, answers, the two gates,
latching, re-evaluation, the WARN level. -/

namespace Sys2Proof.Machine

/-! ### Masks -/

theorem hasKind_addKind (m : KindMask) (k j : Kind) :
    hasKind (addKind m k) j = (hasKind m j || decide (j = k)) := by
  simp only [hasKind, addKind, kindMask, BitVec.getLsbD_or, BitVec.getLsbD_shiftLeft]
  cases k <;> cases j <;> simp [Kind.bit]

theorem hasKind_dropKind (m : KindMask) (k j : Kind) :
    hasKind (dropKind m k) j = (hasKind m j && decide (j ≠ k)) := by
  simp only [hasKind, dropKind, kindMask, BitVec.getLsbD_and, BitVec.getLsbD_not, BitVec.getLsbD_shiftLeft]
  cases k <;> cases j <;> simp [Kind.bit]

theorem hasKind_zero (k : Kind) : hasKind 0 k = false := by cases k <;> rfl

theorem addKind_ne_zero (m : KindMask) (k : Kind) : addKind m k ≠ 0 := by
  intro h
  have := hasKind_addKind m k k
  rw [h, hasKind_zero] at this
  simp at this

theorem allKinds_nodup : allKinds.Nodup := by decide

theorem mem_allKinds (k : Kind) : k ∈ allKinds := by cases k <;> decide

/-- A fold that adds the kinds of a list satisfying a test. -/
theorem hasKind_foldl (f : Kind → Bool) (ks : List Kind) (m : KindMask) (j : Kind) :
    hasKind (ks.foldl (fun m k => if f k then addKind m k else m) m) j =
      (hasKind m j || (f j && decide (j ∈ ks))) := by
  induction ks generalizing m with
  | nil => simp
  | cons k ks ih =>
    rw [List.foldl_cons, ih]
    by_cases hk : f k = true
    · by_cases hj : j = k
      · subst hj; simp [hk, hasKind_addKind]
      · simp [hk, hasKind_addKind, hj]
    · by_cases hj : j = k
      · subst hj; simp [hk]
      · simp [hk, hj]

/-- The mask of the kinds that satisfy a test has exactly those. -/
theorem hasKind_maskOf (f : Kind → Bool) (k : Kind) : hasKind (maskOf f) k = f k := by
  rw [maskOf, hasKind_foldl, hasKind_zero]; simp [mem_allKinds]

/-- Two masks with the same kinds are equal. -/
theorem kindMask_ext {m n : KindMask} (h : ∀ k, hasKind m k = hasKind n k) : m = n := by
  apply BitVec.eq_of_getLsbD_eq
  intro i hi
  have : ∃ k : Kind, k.bit = i := by
    match i, hi with
    | 0, _ => exact ⟨.underW, rfl⟩
    | 1, _ => exact ⟨.underC, rfl⟩
    | 2, _ => exact ⟨.overW, rfl⟩
    | 3, _ => exact ⟨.leak, rfl⟩
    | 4, _ => exact ⟨.tempW, rfl⟩
    | 5, _ => exact ⟨.tempC, rfl⟩
    | 6, _ => exact ⟨.imbalance, rfl⟩
    | 7, _ => exact ⟨.missing, rfl⟩
    | 8, _ => exact ⟨.sensorFault, rfl⟩
    | 9, _ => exact ⟨.batteryLow, rfl⟩
    | n + 10, h => omega
  obtain ⟨k, rfl⟩ := this
  exact h k

theorem transitions_self (m : KindMask) : transitions m m = [] := by
  simp [transitions]

theorem mem_transitions {old new : KindMask} {k : Kind} :
    k ∈ transitions old new ↔ hasKind new k = true ∧ hasKind old k = false := by
  simp [transitions, mem_allKinds]

/-! ### Positions -/

theorem partner_partner (p : Pos) : partner (partner p) = p := by revert p; decide
theorem partner_ne (p : Pos) : partner p ≠ p := by revert p; decide
theorem axleOf_partner (p : Pos) : axleOf (partner p) = axleOf p := by revert p; decide
theorem inTruck_partner (p : Pos) : inTruck (partner p) = inTruck p := by revert p; decide
theorem inTruck_eq_truckAxle (p : Pos) : inTruck p = truckAxle (axleOf p) := by revert p; decide
theorem posAt_axleOf_slotOf (p : Pos) : posAt (axleOf p) (slotOf p) = p := by revert p; decide

/-- The position that holds an ID, where there is one, does hold it. -/
theorem State.holder_some {s : State} {id : SensorId} {p : Pos} (h : s.holder id = some p) :
    (s.pos p).sensor = some id := by
  have := List.find?_some h
  simpa using this

/-- No position holds an ID that the lookup does not find. -/
theorem State.holder_none {s : State} {id : SensorId} :
    s.holder id = none ↔ ∀ p, (s.pos p).sensor ≠ some id := by
  simp [State.holder, allPositions]

/-- Where IDs are at one position each, the lookup finds the position that holds the ID. -/
theorem State.IdentityLaw.holder_eq {s : State} (h : s.IdentityLaw) {id : SensorId} {p : Pos}
    (hp : (s.pos p).sensor = some id) : s.holder id = some p := by
  cases hq : s.holder id with
  | none => exact absurd hp (State.holder_none.1 hq p)
  | some q => rw [h.distinct q p id (State.holder_some hq) hp]

/-! ### Duration timers -/

@[simp] theorem ranOut_none (now : Tick) (n : Nat) : ranOut none now n = false := rfl
@[simp] theorem ranOut_some (start now : Tick) (n : Nat) :
    ranOut (some start) now n = decide (n ≤ (now - start).toNat) := rfl

/-! ### Transmit queues and answers -/

/-- A frame raised for a port changes that port's queue and overflow flag alone. -/
theorem PortCtl.enqueue_eq (c : PortCtl) (f : TxFrame) :
    c.enqueue f = { c with queue := (c.enqueue f).queue, overflow := (c.enqueue f).overflow } := by
  unfold PortCtl.enqueue
  split
  · split <;> rfl
  · split
    · rfl
    · split
      · rfl
      · split <;> rfl

/-- The queue never grows beyond its capacity by a frame raised. -/
theorem PortCtl.enqueue_room (c : PortCtl) (f : TxFrame) (h : c.queue.length ≤ Config.queueCapacity) :
    (c.enqueue f).queue.length ≤ Config.queueCapacity := by
  unfold PortCtl.enqueue
  split
  · split <;> exact h
  · split
    · simp only [List.length_append, List.length_singleton]; omega
    · split
      · exact h
      · split
        · rename_i hany
          obtain ⟨x, hx, hr⟩ := List.any_eq_true.1 hany
          simp only [List.length_append, List.length_singleton, List.length_eraseP_of_mem hx hr]
          have := List.length_pos_of_mem hx
          omega
        · exact h

/-- A frame sent changes the ports alone. -/
theorem State.send_eq (s : State) (p : Port) (pr : BitVec 3) (cls : BitVec 2) (code target : Byte)
    (data : List Byte) :
    s.send p pr cls code target data = { s with ports := (s.send p pr cls code target data).ports } := rfl

theorem State.address_of_straps {s t : State} (h : t.straps = s.straps) : t.address = s.address := by
  simp [State.address, h]

/-- A notice changes the ports alone. -/
theorem State.notice_eq (s : State) (code : Byte) (data : List Byte) :
    s.notice code data = { s with ports := (s.notice code data).ports } := rfl

/-- A notice raises the same frame on each port. -/
theorem State.port_notice (s : State) (code : Byte) (data : List Byte) (k : Port) :
    (s.notice code data).port k = (s.port k).enqueue
      { ident := frameIdent 3 classNotice code Config.allNodes s.address, data := data, sending := false } := by
  cases k <;> rfl

/-- Two reports, one per port. -/
theorem State.port_report_report (s : State) (pr : BitVec 3) (code : Byte) (da db : List Byte) (k : Port) :
    ((s.report .a pr code da).report .b pr code db).port k = (s.port k).enqueue
      { ident := frameIdent pr classReport code Config.allNodes s.address,
        data := match k with
          | .a => da
          | .b => db
        sending := false } := by
  cases k <;> rfl

/-- A notice is a frame raised on both ports at priority 3 with class NOTICE (R165, R171). -/
theorem State.notice_raisedOnBoth (s : State) (code : Byte) (data : List Byte) :
    s.notice code data = s.raisedOnBoth 3 3 code fun _ => data := rfl

/-- Two reports of one code, one per port, are frames raised on both ports with class REPORT. -/
theorem State.reports_raisedOnBoth (s : State) (pr : BitVec 3) (code : Byte) (data : Port → List Byte) :
    (s.report .a pr code (data .a)).report .b pr code (data .b) = s.raisedOnBoth pr 2 code data := rfl

/-- A stack change: the new stack, STACK CHANGED on both ports, and a re-evaluation where the top changed. -/
theorem State.changeStack_raisedOnBoth (s : State) (c : StackChange) :
    s.changeStack c =
      let raised := ({ s with stack := c.stack } : State).raisedOnBoth 3 2 0x62#8 fun _ => stackBytes c
      if c.topChanged then raised.reevaluate else raised := rfl

/-- An answer changes the ports alone. -/
theorem State.answer_eq (s : State) (r : Request) (code : Byte) (frames : List (List Byte)) :
    s.answer r code frames = { s with ports := (s.answer r code frames).ports } := by
  induction frames generalizing s with
  | nil => rfl
  | cons d ds ih => exact ih _

/-- An answer of no frames is none. -/
@[simp] theorem State.answer_nil (s : State) (r : Request) (code : Byte) : s.answer r code [] = s := rfl

/-- An answer is sent frame by frame. -/
theorem State.answer_cons (s : State) (r : Request) (code : Byte) (d : List Byte) (ds : List (List Byte)) :
    s.answer r code (d :: ds) = (s.send r.port 4 classAnswer code r.sender d).answer r code ds := rfl

/-- An answer leaves the other port alone. -/
theorem State.port_answer_ne (s : State) (r : Request) (code : Byte) (frames : List (List Byte)) {k : Port}
    (h : k ≠ r.port) : (s.answer r code frames).port k = s.port k := by
  induction frames generalizing s with
  | nil => rfl
  | cons d ds ih => rw [State.answer_cons, ih]; exact State.port_setPort_ne s _ h

/-- What an answer does to the port it goes to. -/
theorem State.port_answer_same (s : State) (r : Request) (code : Byte) (frames : List (List Byte)) :
    (s.answer r code frames).port r.port = frames.foldl (fun c data => c.enqueue
      { ident := frameIdent 4 classAnswer code r.sender s.address, data := data, sending := false })
      (s.port r.port) := by
  induction frames generalizing s with
  | nil => rfl
  | cons d ds ih =>
    rw [State.answer_cons, ih, State.address_of_straps (t := s.send r.port 4 classAnswer code r.sender d) rfl,
      List.foldl_cons]
    congr 1
    exact State.port_setPort_same s _ _

/-! ### The gates -/

/-- A request on a port that does not take it is passed over. -/
theorem State.request_passed {α : Type} {s : State} {r : Request} (code : Byte) (ops : Option α)
    (own : α → State → State) (h : s.takes r = false) : s.request r code ops own = s := by
  simp [State.request, h]

/-- A request taken while STARTING is answered NOT-READY. -/
theorem State.request_starting {α : Type} {s : State} {r : Request} (code : Byte) (ops : Option α)
    (own : α → State → State) (h : s.takes r = true) (hp : s.phase = .starting) :
    s.request r code ops own = s.refuse r code .notReady := by
  simp [State.request, h, hp]

/-- A request served with its operands read is its block's. -/
theorem State.request_served {α : Type} {s : State} {r : Request} (code : Byte) (x : α)
    (own : α → State → State) (h : s.serves r) : s.request r code (some x) own = own x s := by
  simp [State.request, h.1, h.2]

/-- A request served whose operands cannot be read is refused INVALID. -/
theorem State.request_invalid {α : Type} {s : State} {r : Request} (code : Byte)
    (own : α → State → State) (h : s.serves r) : s.request r code none own = s.refuse r code .invalid := by
  simp [State.request, h.1, h.2]

/-- Everything the gate of requests can do. -/
theorem State.request_cases {α : Type} (s : State) (r : Request) (code : Byte) (ops : Option α)
    (own : α → State → State) :
    s.request r code ops own = s ∨ (∃ o, s.request r code ops own = s.refuse r code o) ∨
      (s.serves r ∧ ∃ x, ops = some x ∧ s.request r code ops own = own x s) := by
  cases ht : s.takes r with
  | false => exact .inl (State.request_passed code ops own ht)
  | true =>
    cases hp : s.phase with
    | starting => exact .inr (.inl ⟨_, State.request_starting code ops own ht hp⟩)
    | running =>
      cases ops with
      | none => exact .inr (.inl ⟨_, State.request_invalid code own ⟨ht, hp⟩⟩)
      | some x => exact .inr (.inr ⟨⟨ht, hp⟩, x, rfl, State.request_served code x own ⟨ht, hp⟩⟩)

/-- An edit served on the holder's port with its operands read is its block's. -/
theorem State.edit_served {α : Type} {s : State} {r : Request} (code : Byte) (x : α)
    (own : α → State → State) (h : s.servesHolder r) : s.edit r code (some x) own = own x s := by
  simp [State.edit, State.request_served code x _ h.1, h.2]

/-- Everything the gate of edits can do. -/
theorem State.edit_cases {α : Type} (s : State) (r : Request) (code : Byte) (ops : Option α)
    (own : α → State → State) :
    s.edit r code ops own = s ∨ (∃ o, s.edit r code ops own = s.refuse r code o) ∨
      (s.servesHolder r ∧ ∃ x, ops = some x ∧ s.edit r code ops own = own x s) := by
  rcases State.request_cases s r code ops (fun x s =>
    if s.grant.state = .held r.port then own x s else s.refuse r code .noGrant) with h | h | ⟨hs, x, hx, h⟩
  · exact .inl h
  · exact .inr (.inl h)
  · by_cases hg : s.grant.state = .held r.port
    · exact .inr (.inr ⟨⟨hs, hg⟩, x, hx, by rw [State.edit, h, if_pos hg]⟩)
    · exact .inr (.inl ⟨_, by rw [State.edit, h, if_neg hg]⟩)

/-- A refusal is an answer. -/
theorem State.refuse_is_answer (s : State) (r : Request) (code : Byte) (o : Reply) :
    ∃ frames, s.refuse r code o = s.answer r code frames := by
  unfold State.refuse State.reply; split <;> exact ⟨_, rfl⟩

/-- A refusal of any request but READ FOREIGN carries its code alone. -/
theorem State.refuse_of_ne (s : State) (r : Request) {code : Byte} (o : Reply) (h : code ≠ codeReadForeign) :
    s.refuse r code o = s.answer r code [[o.code]] := by
  rw [State.refuse, if_neg h, State.reply]

/-! ### The grant's timer and marks -/

/-- An accepted edit sets the idle timer where no session exists. -/
theorem State.refreshIdle_eq (s : State) : s.refreshIdle = { s with grant := { s.grant with
    idleTimer := if s.teach = none then some s.tick else s.grant.idleTimer } } := by
  by_cases h : s.teach = none
  · simp [State.refreshIdle, h]
  · simp [State.refreshIdle, h]

/-- A changed mark set changes the marks alone. -/
theorem State.mark_eq (s : State) (n : SectionName) :
    s.mark n = { s with grant := { s.grant with marks := s.grant.marks.set n true } } := rfl

/-! ### Latching, evaluation, the WARN level -/

/-- The WARN level recomputed changes the Warning Line Driver alone. -/
theorem State.recomputeWarn_eq (s : State) : s.recomputeWarn = { s with warn := s.recomputeWarn.warn } := by
  unfold State.recomputeWarn; dsimp only; split <;> rfl

/-- After it is recomputed the WARN level is that of the counted kinds. -/
theorem State.recomputeWarn_level (s : State) : s.recomputeWarn.warn.level = levelOf s.counted := by
  unfold State.recomputeWarn; dsimp only; split
  · rename_i h; exact h.symm
  · rfl

/-- A state whose level is right is left as it is. -/
theorem State.recomputeWarn_of_level {s : State} (h : s.warn.level = levelOf s.counted) :
    s.recomputeWarn = s := by
  unfold State.recomputeWarn; dsimp only; rw [if_pos h.symm]

/-- What is counted depends on the positions and the lamp setting alone. -/
theorem State.counted_congr {s t : State} (hp : t.positions = s.positions)
    (hl : t.settings.lampPorts = s.settings.lampPorts) : t.counted = s.counted := by
  simp only [State.counted, State.pos, hp, hl]

/-- One transition taken changes positions and ports alone. -/
theorem State.latchOne_eq (cause : AlarmCause) (s : State) (t : Pos × Kind) :
    s.latchOne cause t =
      { s with positions := (s.latchOne cause t).positions, ports := (s.latchOne cause t).ports } := rfl

/-- One transition taken latches its kind at its position. -/
theorem State.pos_latchOne (cause : AlarmCause) (s : State) (t : Pos × Kind) (q : Pos) :
    (s.latchOne cause t).pos q = if q = t.1 then (s.pos t.1).latch t.2
      { kind := t.2, tick := s.tick, pc := (s.pos t.1).pc, temperature := (s.pos t.1).sampleTemp }
      else s.pos q := s.pos_setPos t.1 q _

/-- A batch taken changes positions and ports alone. -/
theorem State.latchAll_eq (cause : AlarmCause) (s : State) (ts : List (Pos × Kind)) :
    s.latchAll cause ts =
      { s with positions := (s.latchAll cause ts).positions, ports := (s.latchAll cause ts).ports } := by
  induction ts generalizing s with
  | nil => rfl
  | cons t ts ih => exact ih _

@[simp] theorem State.latchAll_nil (cause : AlarmCause) (s : State) : s.latchAll cause [] = s := rfl

theorem State.latchAll_cons (cause : AlarmCause) (s : State) (t : Pos × Kind) (ts : List (Pos × Kind)) :
    s.latchAll cause (t :: ts) = (s.latchOne cause t).latchAll cause ts := rfl

/-- A batch taken changes latched sets and captures alone, and only at the positions it names. -/
theorem State.pos_latchAll (cause : AlarmCause) (s : State) (ts : List (Pos × Kind)) (q : Pos) :
    (s.latchAll cause ts).pos q = { s.pos q with
      latched := ((s.latchAll cause ts).pos q).latched, capture := ((s.latchAll cause ts).pos q).capture } ∧
    ((∀ t ∈ ts, t.1 ≠ q) → (s.latchAll cause ts).pos q = s.pos q) := by
  induction ts generalizing s with
  | nil => exact ⟨rfl, fun _ => rfl⟩
  | cons t ts ih =>
    rw [State.latchAll_cons]
    obtain ⟨h1, h2⟩ := ih (s.latchOne cause t)
    constructor
    · rw [h1, State.pos_latchOne]
      split
      · rename_i h; subst h; rfl
      · rfl
    · intro h
      rw [h2 fun u hu => h u (List.mem_cons_of_mem _ hu), State.pos_latchOne,
        if_neg fun e => h t List.mem_cons_self e.symm]

/-- A re-evaluation changes positions and ports alone. -/
theorem State.reevaluate_eq (s : State) :
    s.reevaluate = { s with positions := s.reevaluate.positions, ports := s.reevaluate.ports } := by
  unfold State.reevaluate; dsimp only
  rw [State.latchAll_eq]
  simp only [State.retestAll, State.recomputeAllPc, State.mapPos]

/-- A re-evaluation changes Pc, live set, latched sets and captures alone, and only at ACTIVE positions. -/
theorem State.pos_reevaluate (s : State) (q : Pos) :
    s.reevaluate.pos q = { s.pos q with
      pc := (s.reevaluate.pos q).pc, live := (s.reevaluate.pos q).live,
      latched := (s.reevaluate.pos q).latched, capture := (s.reevaluate.pos q).capture } ∧
    ((s.pos q).state ≠ .active → s.reevaluate.pos q = s.pos q) := by
  unfold State.reevaluate; dsimp only
  generalize htested : s.recomputeAllPc.retestAll = tested
  have hpos : ∀ p, tested.pos p = if (s.pos p).state = .active then
      { s.pos p with pc := (s.withPc (s.pos p)).pc, live := (tested.pos p).live } else s.pos p := by
    intro p
    subst htested
    have hw : ∀ x, s.withPc x = { x with pc := (s.withPc x).pc } := by
      intro x; unfold State.withPc; split
      · rfl
      · split <;> rfl
    have hst : ∀ x, (s.withPc x).state = x.state := fun x => by rw [hw]
    simp only [State.retestAll, State.recomputeAllPc, State.pos_mapPos]
    by_cases h : (s.pos p).state = .active
    · simp only [if_pos h, hst]
      rw [hw]
    · simp only [if_neg h]
  obtain ⟨h1, h2⟩ := State.pos_latchAll .reEvaluation tested (transitionsBetween s.recomputeAllPc tested) q
  constructor
  · rw [h1, hpos]
    split <;> rfl
  · intro h
    rw [h2, hpos, if_neg h]
    intro t ht hq
    simp only [transitionsBetween, List.mem_flatMap, List.mem_map] at ht
    obtain ⟨p, -, k, hk, rfl⟩ := ht
    subst hq
    rw [mem_transitions, hpos, if_neg h] at hk
    simp only [State.recomputeAllPc, State.pos_mapPos, if_neg h] at hk
    rw [hk.1] at hk
    exact absurd hk.2 (by simp)

end Sys2Proof.Machine
end

