-- ==== Sys2Proof/Laws/Fields.lean ====
section
/-! SUPPORT. One lemma per field that a shared operation leaves alone. -/

namespace Sys2Proof.Machine

@[simp] theorem State.send_pending (s : State) (p : Port) (pr : BitVec 3) (cls : BitVec 2) (code target : Byte) (data : List Byte) :
    (s.send p pr cls code target data).pending = s.pending := by rw [State.send_eq]
@[simp] theorem State.send_phase (s : State) (p : Port) (pr : BitVec 3) (cls : BitVec 2) (code target : Byte) (data : List Byte) :
    (s.send p pr cls code target data).phase = s.phase := by rw [State.send_eq]
@[simp] theorem State.send_tick (s : State) (p : Port) (pr : BitVec 3) (cls : BitVec 2) (code target : Byte) (data : List Byte) :
    (s.send p pr cls code target data).tick = s.tick := by rw [State.send_eq]
@[simp] theorem State.send_straps (s : State) (p : Port) (pr : BitVec 3) (cls : BitVec 2) (code target : Byte) (data : List Byte) :
    (s.send p pr cls code target data).straps = s.straps := by rw [State.send_eq]
@[simp] theorem State.send_trl (s : State) (p : Port) (pr : BitVec 3) (cls : BitVec 2) (code target : Byte) (data : List Byte) :
    (s.send p pr cls code target data).trl = s.trl := by rw [State.send_eq]
@[simp] theorem State.send_body (s : State) (p : Port) (pr : BitVec 3) (cls : BitVec 2) (code target : Byte) (data : List Byte) :
    (s.send p pr cls code target data).body = s.body := by rw [State.send_eq]
@[simp] theorem State.send_lines (s : State) (p : Port) (pr : BitVec 3) (cls : BitVec 2) (code target : Byte) (data : List Byte) :
    (s.send p pr cls code target data).lines = s.lines := by rw [State.send_eq]
@[simp] theorem State.send_merge (s : State) (p : Port) (pr : BitVec 3) (cls : BitVec 2) (code target : Byte) (data : List Byte) :
    (s.send p pr cls code target data).merge = s.merge := by rw [State.send_eq]
@[simp] theorem State.send_axles (s : State) (p : Port) (pr : BitVec 3) (cls : BitVec 2) (code target : Byte) (data : List Byte) :
    (s.send p pr cls code target data).axles = s.axles := by rw [State.send_eq]
@[simp] theorem State.send_positions (s : State) (p : Port) (pr : BitVec 3) (cls : BitVec 2) (code target : Byte) (data : List Byte) :
    (s.send p pr cls code target data).positions = s.positions := by rw [State.send_eq]
@[simp] theorem State.send_foreign (s : State) (p : Port) (pr : BitVec 3) (cls : BitVec 2) (code target : Byte) (data : List Byte) :
    (s.send p pr cls code target data).foreign = s.foreign := by rw [State.send_eq]
@[simp] theorem State.send_trailerPresent (s : State) (p : Port) (pr : BitVec 3) (cls : BitVec 2) (code target : Byte) (data : List Byte) :
    (s.send p pr cls code target data).trailerPresent = s.trailerPresent := by rw [State.send_eq]
@[simp] theorem State.send_trlTimer (s : State) (p : Port) (pr : BitVec 3) (cls : BitVec 2) (code target : Byte) (data : List Byte) :
    (s.send p pr cls code target data).trlTimer = s.trlTimer := by rw [State.send_eq]
@[simp] theorem State.send_context (s : State) (p : Port) (pr : BitVec 3) (cls : BitVec 2) (code target : Byte) (data : List Byte) :
    (s.send p pr cls code target data).context = s.context := by rw [State.send_eq]
@[simp] theorem State.send_profiles (s : State) (p : Port) (pr : BitVec 3) (cls : BitVec 2) (code target : Byte) (data : List Byte) :
    (s.send p pr cls code target data).profiles = s.profiles := by rw [State.send_eq]
@[simp] theorem State.send_stack (s : State) (p : Port) (pr : BitVec 3) (cls : BitVec 2) (code target : Byte) (data : List Byte) :
    (s.send p pr cls code target data).stack = s.stack := by rw [State.send_eq]
@[simp] theorem State.send_bodyState (s : State) (p : Port) (pr : BitVec 3) (cls : BitVec 2) (code target : Byte) (data : List Byte) :
    (s.send p pr cls code target data).bodyState = s.bodyState := by rw [State.send_eq]
@[simp] theorem State.send_bodyTimer (s : State) (p : Port) (pr : BitVec 3) (cls : BitVec 2) (code target : Byte) (data : List Byte) :
    (s.send p pr cls code target data).bodyTimer = s.bodyTimer := by rw [State.send_eq]
@[simp] theorem State.send_settings (s : State) (p : Port) (pr : BitVec 3) (cls : BitVec 2) (code target : Byte) (data : List Byte) :
    (s.send p pr cls code target data).settings = s.settings := by rw [State.send_eq]
@[simp] theorem State.send_warn (s : State) (p : Port) (pr : BitVec 3) (cls : BitVec 2) (code target : Byte) (data : List Byte) :
    (s.send p pr cls code target data).warn = s.warn := by rw [State.send_eq]
@[simp] theorem State.send_teach (s : State) (p : Port) (pr : BitVec 3) (cls : BitVec 2) (code target : Byte) (data : List Byte) :
    (s.send p pr cls code target data).teach = s.teach := by rw [State.send_eq]
@[simp] theorem State.send_grant (s : State) (p : Port) (pr : BitVec 3) (cls : BitVec 2) (code target : Byte) (data : List Byte) :
    (s.send p pr cls code target data).grant = s.grant := by rw [State.send_eq]
@[simp] theorem State.send_store (s : State) (p : Port) (pr : BitVec 3) (cls : BitVec 2) (code target : Byte) (data : List Byte) :
    (s.send p pr cls code target data).store = s.store := by rw [State.send_eq]
@[simp] theorem State.send_flags (s : State) (p : Port) (pr : BitVec 3) (cls : BitVec 2) (code target : Byte) (data : List Byte) :
    (s.send p pr cls code target data).flags = s.flags := by rw [State.send_eq]
@[simp] theorem State.send_pos (s : State) (p : Port) (pr : BitVec 3) (cls : BitVec 2) (code target : Byte) (data : List Byte) (q : Pos) :
    (s.send p pr cls code target data).pos q = s.pos q := by rw [State.send_eq]; rfl
@[simp] theorem State.send_axle (s : State) (p : Port) (pr : BitVec 3) (cls : BitVec 2) (code target : Byte) (data : List Byte) (b : AxleNo) :
    (s.send p pr cls code target data).axle b = s.axle b := by rw [State.send_eq]; rfl
@[simp] theorem State.send_line (s : State) (p : Port) (pr : BitVec 3) (cls : BitVec 2) (code target : Byte) (data : List Byte) (j : Fin 4) :
    (s.send p pr cls code target data).line j = s.line j := by rw [State.send_eq]; rfl
@[simp] theorem State.send_profile (s : State) (p : Port) (pr : BitVec 3) (cls : BitVec 2) (code target : Byte) (data : List Byte) (n : ProfileNo) :
    (s.send p pr cls code target data).profile n = s.profile n := by rw [State.send_eq]; rfl

@[simp] theorem State.notice_pending (s : State) (code : Byte) (data : List Byte) :
    (s.notice code data).pending = s.pending := by rw [State.notice_eq]
@[simp] theorem State.notice_phase (s : State) (code : Byte) (data : List Byte) :
    (s.notice code data).phase = s.phase := by rw [State.notice_eq]
@[simp] theorem State.notice_tick (s : State) (code : Byte) (data : List Byte) :
    (s.notice code data).tick = s.tick := by rw [State.notice_eq]
@[simp] theorem State.notice_straps (s : State) (code : Byte) (data : List Byte) :
    (s.notice code data).straps = s.straps := by rw [State.notice_eq]
@[simp] theorem State.notice_trl (s : State) (code : Byte) (data : List Byte) :
    (s.notice code data).trl = s.trl := by rw [State.notice_eq]
@[simp] theorem State.notice_body (s : State) (code : Byte) (data : List Byte) :
    (s.notice code data).body = s.body := by rw [State.notice_eq]
@[simp] theorem State.notice_lines (s : State) (code : Byte) (data : List Byte) :
    (s.notice code data).lines = s.lines := by rw [State.notice_eq]
@[simp] theorem State.notice_merge (s : State) (code : Byte) (data : List Byte) :
    (s.notice code data).merge = s.merge := by rw [State.notice_eq]
@[simp] theorem State.notice_axles (s : State) (code : Byte) (data : List Byte) :
    (s.notice code data).axles = s.axles := by rw [State.notice_eq]
@[simp] theorem State.notice_positions (s : State) (code : Byte) (data : List Byte) :
    (s.notice code data).positions = s.positions := by rw [State.notice_eq]
@[simp] theorem State.notice_foreign (s : State) (code : Byte) (data : List Byte) :
    (s.notice code data).foreign = s.foreign := by rw [State.notice_eq]
@[simp] theorem State.notice_trailerPresent (s : State) (code : Byte) (data : List Byte) :
    (s.notice code data).trailerPresent = s.trailerPresent := by rw [State.notice_eq]
@[simp] theorem State.notice_trlTimer (s : State) (code : Byte) (data : List Byte) :
    (s.notice code data).trlTimer = s.trlTimer := by rw [State.notice_eq]
@[simp] theorem State.notice_context (s : State) (code : Byte) (data : List Byte) :
    (s.notice code data).context = s.context := by rw [State.notice_eq]
@[simp] theorem State.notice_profiles (s : State) (code : Byte) (data : List Byte) :
    (s.notice code data).profiles = s.profiles := by rw [State.notice_eq]
@[simp] theorem State.notice_stack (s : State) (code : Byte) (data : List Byte) :
    (s.notice code data).stack = s.stack := by rw [State.notice_eq]
@[simp] theorem State.notice_bodyState (s : State) (code : Byte) (data : List Byte) :
    (s.notice code data).bodyState = s.bodyState := by rw [State.notice_eq]
@[simp] theorem State.notice_bodyTimer (s : State) (code : Byte) (data : List Byte) :
    (s.notice code data).bodyTimer = s.bodyTimer := by rw [State.notice_eq]
@[simp] theorem State.notice_settings (s : State) (code : Byte) (data : List Byte) :
    (s.notice code data).settings = s.settings := by rw [State.notice_eq]
@[simp] theorem State.notice_warn (s : State) (code : Byte) (data : List Byte) :
    (s.notice code data).warn = s.warn := by rw [State.notice_eq]
@[simp] theorem State.notice_teach (s : State) (code : Byte) (data : List Byte) :
    (s.notice code data).teach = s.teach := by rw [State.notice_eq]
@[simp] theorem State.notice_grant (s : State) (code : Byte) (data : List Byte) :
    (s.notice code data).grant = s.grant := by rw [State.notice_eq]
@[simp] theorem State.notice_store (s : State) (code : Byte) (data : List Byte) :
    (s.notice code data).store = s.store := by rw [State.notice_eq]
@[simp] theorem State.notice_flags (s : State) (code : Byte) (data : List Byte) :
    (s.notice code data).flags = s.flags := by rw [State.notice_eq]
@[simp] theorem State.notice_pos (s : State) (code : Byte) (data : List Byte) (q : Pos) :
    (s.notice code data).pos q = s.pos q := by rw [State.notice_eq]; rfl
@[simp] theorem State.notice_axle (s : State) (code : Byte) (data : List Byte) (b : AxleNo) :
    (s.notice code data).axle b = s.axle b := by rw [State.notice_eq]; rfl
@[simp] theorem State.notice_line (s : State) (code : Byte) (data : List Byte) (j : Fin 4) :
    (s.notice code data).line j = s.line j := by rw [State.notice_eq]; rfl
@[simp] theorem State.notice_profile (s : State) (code : Byte) (data : List Byte) (n : ProfileNo) :
    (s.notice code data).profile n = s.profile n := by rw [State.notice_eq]; rfl

@[simp] theorem State.answer_pending (s : State) (r : Request) (code : Byte) (fs : List (List Byte)) :
    (s.answer r code fs).pending = s.pending := by rw [State.answer_eq]
@[simp] theorem State.answer_phase (s : State) (r : Request) (code : Byte) (fs : List (List Byte)) :
    (s.answer r code fs).phase = s.phase := by rw [State.answer_eq]
@[simp] theorem State.answer_tick (s : State) (r : Request) (code : Byte) (fs : List (List Byte)) :
    (s.answer r code fs).tick = s.tick := by rw [State.answer_eq]
@[simp] theorem State.answer_straps (s : State) (r : Request) (code : Byte) (fs : List (List Byte)) :
    (s.answer r code fs).straps = s.straps := by rw [State.answer_eq]
@[simp] theorem State.answer_trl (s : State) (r : Request) (code : Byte) (fs : List (List Byte)) :
    (s.answer r code fs).trl = s.trl := by rw [State.answer_eq]
@[simp] theorem State.answer_body (s : State) (r : Request) (code : Byte) (fs : List (List Byte)) :
    (s.answer r code fs).body = s.body := by rw [State.answer_eq]
@[simp] theorem State.answer_lines (s : State) (r : Request) (code : Byte) (fs : List (List Byte)) :
    (s.answer r code fs).lines = s.lines := by rw [State.answer_eq]
@[simp] theorem State.answer_merge (s : State) (r : Request) (code : Byte) (fs : List (List Byte)) :
    (s.answer r code fs).merge = s.merge := by rw [State.answer_eq]
@[simp] theorem State.answer_axles (s : State) (r : Request) (code : Byte) (fs : List (List Byte)) :
    (s.answer r code fs).axles = s.axles := by rw [State.answer_eq]
@[simp] theorem State.answer_positions (s : State) (r : Request) (code : Byte) (fs : List (List Byte)) :
    (s.answer r code fs).positions = s.positions := by rw [State.answer_eq]
@[simp] theorem State.answer_foreign (s : State) (r : Request) (code : Byte) (fs : List (List Byte)) :
    (s.answer r code fs).foreign = s.foreign := by rw [State.answer_eq]
@[simp] theorem State.answer_trailerPresent (s : State) (r : Request) (code : Byte) (fs : List (List Byte)) :
    (s.answer r code fs).trailerPresent = s.trailerPresent := by rw [State.answer_eq]
@[simp] theorem State.answer_trlTimer (s : State) (r : Request) (code : Byte) (fs : List (List Byte)) :
    (s.answer r code fs).trlTimer = s.trlTimer := by rw [State.answer_eq]
@[simp] theorem State.answer_context (s : State) (r : Request) (code : Byte) (fs : List (List Byte)) :
    (s.answer r code fs).context = s.context := by rw [State.answer_eq]
@[simp] theorem State.answer_profiles (s : State) (r : Request) (code : Byte) (fs : List (List Byte)) :
    (s.answer r code fs).profiles = s.profiles := by rw [State.answer_eq]
@[simp] theorem State.answer_stack (s : State) (r : Request) (code : Byte) (fs : List (List Byte)) :
    (s.answer r code fs).stack = s.stack := by rw [State.answer_eq]
@[simp] theorem State.answer_bodyState (s : State) (r : Request) (code : Byte) (fs : List (List Byte)) :
    (s.answer r code fs).bodyState = s.bodyState := by rw [State.answer_eq]
@[simp] theorem State.answer_bodyTimer (s : State) (r : Request) (code : Byte) (fs : List (List Byte)) :
    (s.answer r code fs).bodyTimer = s.bodyTimer := by rw [State.answer_eq]
@[simp] theorem State.answer_settings (s : State) (r : Request) (code : Byte) (fs : List (List Byte)) :
    (s.answer r code fs).settings = s.settings := by rw [State.answer_eq]
@[simp] theorem State.answer_warn (s : State) (r : Request) (code : Byte) (fs : List (List Byte)) :
    (s.answer r code fs).warn = s.warn := by rw [State.answer_eq]
@[simp] theorem State.answer_teach (s : State) (r : Request) (code : Byte) (fs : List (List Byte)) :
    (s.answer r code fs).teach = s.teach := by rw [State.answer_eq]
@[simp] theorem State.answer_grant (s : State) (r : Request) (code : Byte) (fs : List (List Byte)) :
    (s.answer r code fs).grant = s.grant := by rw [State.answer_eq]
@[simp] theorem State.answer_store (s : State) (r : Request) (code : Byte) (fs : List (List Byte)) :
    (s.answer r code fs).store = s.store := by rw [State.answer_eq]
@[simp] theorem State.answer_flags (s : State) (r : Request) (code : Byte) (fs : List (List Byte)) :
    (s.answer r code fs).flags = s.flags := by rw [State.answer_eq]
@[simp] theorem State.answer_pos (s : State) (r : Request) (code : Byte) (fs : List (List Byte)) (q : Pos) :
    (s.answer r code fs).pos q = s.pos q := by rw [State.answer_eq]; rfl
@[simp] theorem State.answer_axle (s : State) (r : Request) (code : Byte) (fs : List (List Byte)) (b : AxleNo) :
    (s.answer r code fs).axle b = s.axle b := by rw [State.answer_eq]; rfl
@[simp] theorem State.answer_line (s : State) (r : Request) (code : Byte) (fs : List (List Byte)) (j : Fin 4) :
    (s.answer r code fs).line j = s.line j := by rw [State.answer_eq]; rfl
@[simp] theorem State.answer_profile (s : State) (r : Request) (code : Byte) (fs : List (List Byte)) (n : ProfileNo) :
    (s.answer r code fs).profile n = s.profile n := by rw [State.answer_eq]; rfl

@[simp] theorem State.recomputeWarn_pending (s : State) :
    (s.recomputeWarn).pending = s.pending := by rw [State.recomputeWarn_eq]
@[simp] theorem State.recomputeWarn_phase (s : State) :
    (s.recomputeWarn).phase = s.phase := by rw [State.recomputeWarn_eq]
@[simp] theorem State.recomputeWarn_tick (s : State) :
    (s.recomputeWarn).tick = s.tick := by rw [State.recomputeWarn_eq]
@[simp] theorem State.recomputeWarn_straps (s : State) :
    (s.recomputeWarn).straps = s.straps := by rw [State.recomputeWarn_eq]
@[simp] theorem State.recomputeWarn_trl (s : State) :
    (s.recomputeWarn).trl = s.trl := by rw [State.recomputeWarn_eq]
@[simp] theorem State.recomputeWarn_body (s : State) :
    (s.recomputeWarn).body = s.body := by rw [State.recomputeWarn_eq]
@[simp] theorem State.recomputeWarn_lines (s : State) :
    (s.recomputeWarn).lines = s.lines := by rw [State.recomputeWarn_eq]
@[simp] theorem State.recomputeWarn_merge (s : State) :
    (s.recomputeWarn).merge = s.merge := by rw [State.recomputeWarn_eq]
@[simp] theorem State.recomputeWarn_axles (s : State) :
    (s.recomputeWarn).axles = s.axles := by rw [State.recomputeWarn_eq]
@[simp] theorem State.recomputeWarn_positions (s : State) :
    (s.recomputeWarn).positions = s.positions := by rw [State.recomputeWarn_eq]
@[simp] theorem State.recomputeWarn_foreign (s : State) :
    (s.recomputeWarn).foreign = s.foreign := by rw [State.recomputeWarn_eq]
@[simp] theorem State.recomputeWarn_trailerPresent (s : State) :
    (s.recomputeWarn).trailerPresent = s.trailerPresent := by rw [State.recomputeWarn_eq]
@[simp] theorem State.recomputeWarn_trlTimer (s : State) :
    (s.recomputeWarn).trlTimer = s.trlTimer := by rw [State.recomputeWarn_eq]
@[simp] theorem State.recomputeWarn_context (s : State) :
    (s.recomputeWarn).context = s.context := by rw [State.recomputeWarn_eq]
@[simp] theorem State.recomputeWarn_profiles (s : State) :
    (s.recomputeWarn).profiles = s.profiles := by rw [State.recomputeWarn_eq]
@[simp] theorem State.recomputeWarn_stack (s : State) :
    (s.recomputeWarn).stack = s.stack := by rw [State.recomputeWarn_eq]
@[simp] theorem State.recomputeWarn_bodyState (s : State) :
    (s.recomputeWarn).bodyState = s.bodyState := by rw [State.recomputeWarn_eq]
@[simp] theorem State.recomputeWarn_bodyTimer (s : State) :
    (s.recomputeWarn).bodyTimer = s.bodyTimer := by rw [State.recomputeWarn_eq]
@[simp] theorem State.recomputeWarn_settings (s : State) :
    (s.recomputeWarn).settings = s.settings := by rw [State.recomputeWarn_eq]
@[simp] theorem State.recomputeWarn_teach (s : State) :
    (s.recomputeWarn).teach = s.teach := by rw [State.recomputeWarn_eq]
@[simp] theorem State.recomputeWarn_grant (s : State) :
    (s.recomputeWarn).grant = s.grant := by rw [State.recomputeWarn_eq]
@[simp] theorem State.recomputeWarn_store (s : State) :
    (s.recomputeWarn).store = s.store := by rw [State.recomputeWarn_eq]
@[simp] theorem State.recomputeWarn_flags (s : State) :
    (s.recomputeWarn).flags = s.flags := by rw [State.recomputeWarn_eq]
@[simp] theorem State.recomputeWarn_ports (s : State) :
    (s.recomputeWarn).ports = s.ports := by rw [State.recomputeWarn_eq]
@[simp] theorem State.recomputeWarn_pos (s : State) (q : Pos) :
    (s.recomputeWarn).pos q = s.pos q := by rw [State.recomputeWarn_eq]; rfl
@[simp] theorem State.recomputeWarn_axle (s : State) (b : AxleNo) :
    (s.recomputeWarn).axle b = s.axle b := by rw [State.recomputeWarn_eq]; rfl
@[simp] theorem State.recomputeWarn_line (s : State) (j : Fin 4) :
    (s.recomputeWarn).line j = s.line j := by rw [State.recomputeWarn_eq]; rfl
@[simp] theorem State.recomputeWarn_port (s : State) (o : Port) :
    (s.recomputeWarn).port o = s.port o := by rw [State.recomputeWarn_eq]; rfl
@[simp] theorem State.recomputeWarn_profile (s : State) (n : ProfileNo) :
    (s.recomputeWarn).profile n = s.profile n := by rw [State.recomputeWarn_eq]; rfl

@[simp] theorem State.refreshIdle_pending (s : State) :
    (s.refreshIdle).pending = s.pending := by rw [State.refreshIdle_eq]
@[simp] theorem State.refreshIdle_phase (s : State) :
    (s.refreshIdle).phase = s.phase := by rw [State.refreshIdle_eq]
@[simp] theorem State.refreshIdle_tick (s : State) :
    (s.refreshIdle).tick = s.tick := by rw [State.refreshIdle_eq]
@[simp] theorem State.refreshIdle_straps (s : State) :
    (s.refreshIdle).straps = s.straps := by rw [State.refreshIdle_eq]
@[simp] theorem State.refreshIdle_trl (s : State) :
    (s.refreshIdle).trl = s.trl := by rw [State.refreshIdle_eq]
@[simp] theorem State.refreshIdle_body (s : State) :
    (s.refreshIdle).body = s.body := by rw [State.refreshIdle_eq]
@[simp] theorem State.refreshIdle_lines (s : State) :
    (s.refreshIdle).lines = s.lines := by rw [State.refreshIdle_eq]
@[simp] theorem State.refreshIdle_merge (s : State) :
    (s.refreshIdle).merge = s.merge := by rw [State.refreshIdle_eq]
@[simp] theorem State.refreshIdle_axles (s : State) :
    (s.refreshIdle).axles = s.axles := by rw [State.refreshIdle_eq]
@[simp] theorem State.refreshIdle_positions (s : State) :
    (s.refreshIdle).positions = s.positions := by rw [State.refreshIdle_eq]
@[simp] theorem State.refreshIdle_foreign (s : State) :
    (s.refreshIdle).foreign = s.foreign := by rw [State.refreshIdle_eq]
@[simp] theorem State.refreshIdle_trailerPresent (s : State) :
    (s.refreshIdle).trailerPresent = s.trailerPresent := by rw [State.refreshIdle_eq]
@[simp] theorem State.refreshIdle_trlTimer (s : State) :
    (s.refreshIdle).trlTimer = s.trlTimer := by rw [State.refreshIdle_eq]
@[simp] theorem State.refreshIdle_context (s : State) :
    (s.refreshIdle).context = s.context := by rw [State.refreshIdle_eq]
@[simp] theorem State.refreshIdle_profiles (s : State) :
    (s.refreshIdle).profiles = s.profiles := by rw [State.refreshIdle_eq]
@[simp] theorem State.refreshIdle_stack (s : State) :
    (s.refreshIdle).stack = s.stack := by rw [State.refreshIdle_eq]
@[simp] theorem State.refreshIdle_bodyState (s : State) :
    (s.refreshIdle).bodyState = s.bodyState := by rw [State.refreshIdle_eq]
@[simp] theorem State.refreshIdle_bodyTimer (s : State) :
    (s.refreshIdle).bodyTimer = s.bodyTimer := by rw [State.refreshIdle_eq]
@[simp] theorem State.refreshIdle_settings (s : State) :
    (s.refreshIdle).settings = s.settings := by rw [State.refreshIdle_eq]
@[simp] theorem State.refreshIdle_warn (s : State) :
    (s.refreshIdle).warn = s.warn := by rw [State.refreshIdle_eq]
@[simp] theorem State.refreshIdle_teach (s : State) :
    (s.refreshIdle).teach = s.teach := by rw [State.refreshIdle_eq]
@[simp] theorem State.refreshIdle_store (s : State) :
    (s.refreshIdle).store = s.store := by rw [State.refreshIdle_eq]
@[simp] theorem State.refreshIdle_flags (s : State) :
    (s.refreshIdle).flags = s.flags := by rw [State.refreshIdle_eq]
@[simp] theorem State.refreshIdle_ports (s : State) :
    (s.refreshIdle).ports = s.ports := by rw [State.refreshIdle_eq]
@[simp] theorem State.refreshIdle_pos (s : State) (q : Pos) :
    (s.refreshIdle).pos q = s.pos q := by rw [State.refreshIdle_eq]; rfl
@[simp] theorem State.refreshIdle_axle (s : State) (b : AxleNo) :
    (s.refreshIdle).axle b = s.axle b := by rw [State.refreshIdle_eq]; rfl
@[simp] theorem State.refreshIdle_line (s : State) (j : Fin 4) :
    (s.refreshIdle).line j = s.line j := by rw [State.refreshIdle_eq]; rfl
@[simp] theorem State.refreshIdle_port (s : State) (o : Port) :
    (s.refreshIdle).port o = s.port o := by rw [State.refreshIdle_eq]; rfl
@[simp] theorem State.refreshIdle_profile (s : State) (n : ProfileNo) :
    (s.refreshIdle).profile n = s.profile n := by rw [State.refreshIdle_eq]; rfl
@[simp] theorem State.refreshIdle_grant_state (s : State) :
    (s.refreshIdle).grant.state = s.grant.state := by rw [State.refreshIdle_eq]
@[simp] theorem State.refreshIdle_grant_waiting (s : State) :
    (s.refreshIdle).grant.waiting = s.grant.waiting := by rw [State.refreshIdle_eq]
@[simp] theorem State.refreshIdle_grant_marks (s : State) :
    (s.refreshIdle).grant.marks = s.grant.marks := by rw [State.refreshIdle_eq]
@[simp] theorem State.refreshIdle_grant_truckLock (s : State) :
    (s.refreshIdle).grant.truckLock = s.grant.truckLock := by rw [State.refreshIdle_eq]
@[simp] theorem State.refreshIdle_grant_revision (s : State) :
    (s.refreshIdle).grant.revision = s.grant.revision := by rw [State.refreshIdle_eq]
@[simp] theorem State.refreshIdle_grant_toSave (s : State) :
    (s.refreshIdle).grant.toSave = s.grant.toSave := by rw [State.refreshIdle_eq]

@[simp] theorem State.mark_pending (s : State) (m : SectionName) :
    (s.mark m).pending = s.pending := by rw [State.mark_eq]
@[simp] theorem State.mark_phase (s : State) (m : SectionName) :
    (s.mark m).phase = s.phase := by rw [State.mark_eq]
@[simp] theorem State.mark_tick (s : State) (m : SectionName) :
    (s.mark m).tick = s.tick := by rw [State.mark_eq]
@[simp] theorem State.mark_straps (s : State) (m : SectionName) :
    (s.mark m).straps = s.straps := by rw [State.mark_eq]
@[simp] theorem State.mark_trl (s : State) (m : SectionName) :
    (s.mark m).trl = s.trl := by rw [State.mark_eq]
@[simp] theorem State.mark_body (s : State) (m : SectionName) :
    (s.mark m).body = s.body := by rw [State.mark_eq]
@[simp] theorem State.mark_lines (s : State) (m : SectionName) :
    (s.mark m).lines = s.lines := by rw [State.mark_eq]
@[simp] theorem State.mark_merge (s : State) (m : SectionName) :
    (s.mark m).merge = s.merge := by rw [State.mark_eq]
@[simp] theorem State.mark_axles (s : State) (m : SectionName) :
    (s.mark m).axles = s.axles := by rw [State.mark_eq]
@[simp] theorem State.mark_positions (s : State) (m : SectionName) :
    (s.mark m).positions = s.positions := by rw [State.mark_eq]
@[simp] theorem State.mark_foreign (s : State) (m : SectionName) :
    (s.mark m).foreign = s.foreign := by rw [State.mark_eq]
@[simp] theorem State.mark_trailerPresent (s : State) (m : SectionName) :
    (s.mark m).trailerPresent = s.trailerPresent := by rw [State.mark_eq]
@[simp] theorem State.mark_trlTimer (s : State) (m : SectionName) :
    (s.mark m).trlTimer = s.trlTimer := by rw [State.mark_eq]
@[simp] theorem State.mark_context (s : State) (m : SectionName) :
    (s.mark m).context = s.context := by rw [State.mark_eq]
@[simp] theorem State.mark_profiles (s : State) (m : SectionName) :
    (s.mark m).profiles = s.profiles := by rw [State.mark_eq]
@[simp] theorem State.mark_stack (s : State) (m : SectionName) :
    (s.mark m).stack = s.stack := by rw [State.mark_eq]
@[simp] theorem State.mark_bodyState (s : State) (m : SectionName) :
    (s.mark m).bodyState = s.bodyState := by rw [State.mark_eq]
@[simp] theorem State.mark_bodyTimer (s : State) (m : SectionName) :
    (s.mark m).bodyTimer = s.bodyTimer := by rw [State.mark_eq]
@[simp] theorem State.mark_settings (s : State) (m : SectionName) :
    (s.mark m).settings = s.settings := by rw [State.mark_eq]
@[simp] theorem State.mark_warn (s : State) (m : SectionName) :
    (s.mark m).warn = s.warn := by rw [State.mark_eq]
@[simp] theorem State.mark_teach (s : State) (m : SectionName) :
    (s.mark m).teach = s.teach := by rw [State.mark_eq]
@[simp] theorem State.mark_store (s : State) (m : SectionName) :
    (s.mark m).store = s.store := by rw [State.mark_eq]
@[simp] theorem State.mark_flags (s : State) (m : SectionName) :
    (s.mark m).flags = s.flags := by rw [State.mark_eq]
@[simp] theorem State.mark_ports (s : State) (m : SectionName) :
    (s.mark m).ports = s.ports := by rw [State.mark_eq]
@[simp] theorem State.mark_pos (s : State) (m : SectionName) (q : Pos) :
    (s.mark m).pos q = s.pos q := by rw [State.mark_eq]; rfl
@[simp] theorem State.mark_axle (s : State) (m : SectionName) (b : AxleNo) :
    (s.mark m).axle b = s.axle b := by rw [State.mark_eq]; rfl
@[simp] theorem State.mark_line (s : State) (m : SectionName) (j : Fin 4) :
    (s.mark m).line j = s.line j := by rw [State.mark_eq]; rfl
@[simp] theorem State.mark_port (s : State) (m : SectionName) (o : Port) :
    (s.mark m).port o = s.port o := by rw [State.mark_eq]; rfl
@[simp] theorem State.mark_profile (s : State) (m : SectionName) (n : ProfileNo) :
    (s.mark m).profile n = s.profile n := by rw [State.mark_eq]; rfl
@[simp] theorem State.mark_grant_state (s : State) (m : SectionName) :
    (s.mark m).grant.state = s.grant.state := by rw [State.mark_eq]
@[simp] theorem State.mark_grant_waiting (s : State) (m : SectionName) :
    (s.mark m).grant.waiting = s.grant.waiting := by rw [State.mark_eq]
@[simp] theorem State.mark_grant_idleTimer (s : State) (m : SectionName) :
    (s.mark m).grant.idleTimer = s.grant.idleTimer := by rw [State.mark_eq]
@[simp] theorem State.mark_grant_truckLock (s : State) (m : SectionName) :
    (s.mark m).grant.truckLock = s.grant.truckLock := by rw [State.mark_eq]
@[simp] theorem State.mark_grant_revision (s : State) (m : SectionName) :
    (s.mark m).grant.revision = s.grant.revision := by rw [State.mark_eq]
@[simp] theorem State.mark_grant_toSave (s : State) (m : SectionName) :
    (s.mark m).grant.toSave = s.grant.toSave := by rw [State.mark_eq]

@[simp] theorem State.latchAll_pending (s : State) (c : AlarmCause) (ts : List (Pos × Kind)) :
    (s.latchAll c ts).pending = s.pending := by rw [State.latchAll_eq]
@[simp] theorem State.latchAll_phase (s : State) (c : AlarmCause) (ts : List (Pos × Kind)) :
    (s.latchAll c ts).phase = s.phase := by rw [State.latchAll_eq]
@[simp] theorem State.latchAll_tick (s : State) (c : AlarmCause) (ts : List (Pos × Kind)) :
    (s.latchAll c ts).tick = s.tick := by rw [State.latchAll_eq]
@[simp] theorem State.latchAll_straps (s : State) (c : AlarmCause) (ts : List (Pos × Kind)) :
    (s.latchAll c ts).straps = s.straps := by rw [State.latchAll_eq]
@[simp] theorem State.latchAll_trl (s : State) (c : AlarmCause) (ts : List (Pos × Kind)) :
    (s.latchAll c ts).trl = s.trl := by rw [State.latchAll_eq]
@[simp] theorem State.latchAll_body (s : State) (c : AlarmCause) (ts : List (Pos × Kind)) :
    (s.latchAll c ts).body = s.body := by rw [State.latchAll_eq]
@[simp] theorem State.latchAll_lines (s : State) (c : AlarmCause) (ts : List (Pos × Kind)) :
    (s.latchAll c ts).lines = s.lines := by rw [State.latchAll_eq]
@[simp] theorem State.latchAll_merge (s : State) (c : AlarmCause) (ts : List (Pos × Kind)) :
    (s.latchAll c ts).merge = s.merge := by rw [State.latchAll_eq]
@[simp] theorem State.latchAll_axles (s : State) (c : AlarmCause) (ts : List (Pos × Kind)) :
    (s.latchAll c ts).axles = s.axles := by rw [State.latchAll_eq]
@[simp] theorem State.latchAll_foreign (s : State) (c : AlarmCause) (ts : List (Pos × Kind)) :
    (s.latchAll c ts).foreign = s.foreign := by rw [State.latchAll_eq]
@[simp] theorem State.latchAll_trailerPresent (s : State) (c : AlarmCause) (ts : List (Pos × Kind)) :
    (s.latchAll c ts).trailerPresent = s.trailerPresent := by rw [State.latchAll_eq]
@[simp] theorem State.latchAll_trlTimer (s : State) (c : AlarmCause) (ts : List (Pos × Kind)) :
    (s.latchAll c ts).trlTimer = s.trlTimer := by rw [State.latchAll_eq]
@[simp] theorem State.latchAll_context (s : State) (c : AlarmCause) (ts : List (Pos × Kind)) :
    (s.latchAll c ts).context = s.context := by rw [State.latchAll_eq]
@[simp] theorem State.latchAll_profiles (s : State) (c : AlarmCause) (ts : List (Pos × Kind)) :
    (s.latchAll c ts).profiles = s.profiles := by rw [State.latchAll_eq]
@[simp] theorem State.latchAll_stack (s : State) (c : AlarmCause) (ts : List (Pos × Kind)) :
    (s.latchAll c ts).stack = s.stack := by rw [State.latchAll_eq]
@[simp] theorem State.latchAll_bodyState (s : State) (c : AlarmCause) (ts : List (Pos × Kind)) :
    (s.latchAll c ts).bodyState = s.bodyState := by rw [State.latchAll_eq]
@[simp] theorem State.latchAll_bodyTimer (s : State) (c : AlarmCause) (ts : List (Pos × Kind)) :
    (s.latchAll c ts).bodyTimer = s.bodyTimer := by rw [State.latchAll_eq]
@[simp] theorem State.latchAll_settings (s : State) (c : AlarmCause) (ts : List (Pos × Kind)) :
    (s.latchAll c ts).settings = s.settings := by rw [State.latchAll_eq]
@[simp] theorem State.latchAll_warn (s : State) (c : AlarmCause) (ts : List (Pos × Kind)) :
    (s.latchAll c ts).warn = s.warn := by rw [State.latchAll_eq]
@[simp] theorem State.latchAll_teach (s : State) (c : AlarmCause) (ts : List (Pos × Kind)) :
    (s.latchAll c ts).teach = s.teach := by rw [State.latchAll_eq]
@[simp] theorem State.latchAll_grant (s : State) (c : AlarmCause) (ts : List (Pos × Kind)) :
    (s.latchAll c ts).grant = s.grant := by rw [State.latchAll_eq]
@[simp] theorem State.latchAll_store (s : State) (c : AlarmCause) (ts : List (Pos × Kind)) :
    (s.latchAll c ts).store = s.store := by rw [State.latchAll_eq]
@[simp] theorem State.latchAll_flags (s : State) (c : AlarmCause) (ts : List (Pos × Kind)) :
    (s.latchAll c ts).flags = s.flags := by rw [State.latchAll_eq]
@[simp] theorem State.latchAll_axle (s : State) (c : AlarmCause) (ts : List (Pos × Kind)) (b : AxleNo) :
    (s.latchAll c ts).axle b = s.axle b := by rw [State.latchAll_eq]; rfl
@[simp] theorem State.latchAll_line (s : State) (c : AlarmCause) (ts : List (Pos × Kind)) (j : Fin 4) :
    (s.latchAll c ts).line j = s.line j := by rw [State.latchAll_eq]; rfl
@[simp] theorem State.latchAll_profile (s : State) (c : AlarmCause) (ts : List (Pos × Kind)) (n : ProfileNo) :
    (s.latchAll c ts).profile n = s.profile n := by rw [State.latchAll_eq]; rfl

@[simp] theorem State.reevaluate_pending (s : State) :
    (s.reevaluate).pending = s.pending := by rw [State.reevaluate_eq]
@[simp] theorem State.reevaluate_phase (s : State) :
    (s.reevaluate).phase = s.phase := by rw [State.reevaluate_eq]
@[simp] theorem State.reevaluate_tick (s : State) :
    (s.reevaluate).tick = s.tick := by rw [State.reevaluate_eq]
@[simp] theorem State.reevaluate_straps (s : State) :
    (s.reevaluate).straps = s.straps := by rw [State.reevaluate_eq]
@[simp] theorem State.reevaluate_trl (s : State) :
    (s.reevaluate).trl = s.trl := by rw [State.reevaluate_eq]
@[simp] theorem State.reevaluate_body (s : State) :
    (s.reevaluate).body = s.body := by rw [State.reevaluate_eq]
@[simp] theorem State.reevaluate_lines (s : State) :
    (s.reevaluate).lines = s.lines := by rw [State.reevaluate_eq]
@[simp] theorem State.reevaluate_merge (s : State) :
    (s.reevaluate).merge = s.merge := by rw [State.reevaluate_eq]
@[simp] theorem State.reevaluate_axles (s : State) :
    (s.reevaluate).axles = s.axles := by rw [State.reevaluate_eq]
@[simp] theorem State.reevaluate_foreign (s : State) :
    (s.reevaluate).foreign = s.foreign := by rw [State.reevaluate_eq]
@[simp] theorem State.reevaluate_trailerPresent (s : State) :
    (s.reevaluate).trailerPresent = s.trailerPresent := by rw [State.reevaluate_eq]
@[simp] theorem State.reevaluate_trlTimer (s : State) :
    (s.reevaluate).trlTimer = s.trlTimer := by rw [State.reevaluate_eq]
@[simp] theorem State.reevaluate_context (s : State) :
    (s.reevaluate).context = s.context := by rw [State.reevaluate_eq]
@[simp] theorem State.reevaluate_profiles (s : State) :
    (s.reevaluate).profiles = s.profiles := by rw [State.reevaluate_eq]
@[simp] theorem State.reevaluate_stack (s : State) :
    (s.reevaluate).stack = s.stack := by rw [State.reevaluate_eq]
@[simp] theorem State.reevaluate_bodyState (s : State) :
    (s.reevaluate).bodyState = s.bodyState := by rw [State.reevaluate_eq]
@[simp] theorem State.reevaluate_bodyTimer (s : State) :
    (s.reevaluate).bodyTimer = s.bodyTimer := by rw [State.reevaluate_eq]
@[simp] theorem State.reevaluate_settings (s : State) :
    (s.reevaluate).settings = s.settings := by rw [State.reevaluate_eq]
@[simp] theorem State.reevaluate_warn (s : State) :
    (s.reevaluate).warn = s.warn := by rw [State.reevaluate_eq]
@[simp] theorem State.reevaluate_teach (s : State) :
    (s.reevaluate).teach = s.teach := by rw [State.reevaluate_eq]
@[simp] theorem State.reevaluate_grant (s : State) :
    (s.reevaluate).grant = s.grant := by rw [State.reevaluate_eq]
@[simp] theorem State.reevaluate_store (s : State) :
    (s.reevaluate).store = s.store := by rw [State.reevaluate_eq]
@[simp] theorem State.reevaluate_flags (s : State) :
    (s.reevaluate).flags = s.flags := by rw [State.reevaluate_eq]
@[simp] theorem State.reevaluate_axle (s : State) (b : AxleNo) :
    (s.reevaluate).axle b = s.axle b := by rw [State.reevaluate_eq]; rfl
@[simp] theorem State.reevaluate_line (s : State) (j : Fin 4) :
    (s.reevaluate).line j = s.line j := by rw [State.reevaluate_eq]; rfl
@[simp] theorem State.reevaluate_profile (s : State) (n : ProfileNo) :
    (s.reevaluate).profile n = s.profile n := by rw [State.reevaluate_eq]; rfl

end Sys2Proof.Machine
end

