-- ==== Sys2Proof/Laws/Frames.lean ====
section
/-! SUPPORT. What each block's operation can change, said once per operation: every field not named on the
right side is left alone. -/

namespace Sys2Proof.Machine

/-! ### Evaluation and supervision -/

theorem State.setLive_eq (s : State) (p : Pos) (m : KindMask) :
    s.setLive p m = s.setPos p { s.pos p with live := m } := rfl

theorem State.dropPartnerImbalance_eq (s : State) (p : Pos) :
    s.dropPartnerImbalance p = s.setPos (partner p)
      { s.pos (partner p) with live := dropKind (s.pos (partner p)).live .imbalance } := rfl

theorem State.evaluateSample_eq (s : State) (p : Pos) : s.evaluateSample p =
    { s with positions := (s.evaluateSample p).positions, ports := (s.evaluateSample p).ports } := by
  unfold State.evaluateSample; dsimp only; rw [State.latchAll_eq]; rfl

theorem State.fallMissing_eq (s : State) (p : Pos) : s.fallMissing p =
    { s with positions := (s.fallMissing p).positions, ports := (s.fallMissing p).ports } := by
  unfold State.fallMissing; dsimp only; rw [State.latchAll_eq]; rfl

theorem State.takeHold_eq (s : State) (p : Pos) : s.takeHold p =
    { s with positions := (s.takeHold p).positions } := rfl

theorem State.restoreHold_eq (s : State) (p : Pos) : s.restoreHold p =
    { s with positions := (s.restoreHold p).positions, ports := (s.restoreHold p).ports } := by
  unfold State.restoreHold; dsimp only
  split
  · rfl
  · rw [State.latchAll_eq]; rfl
  · split
    · rw [State.fallMissing_eq]; rfl
    · rfl

/-! ### The wheel table -/

theorem State.recordReset_eq (s : State) (p : Pos) (id : Option SensorId) : s.recordReset p id =
    { s with positions := (s.recordReset p id).positions, foreign := foreignWithout s.foreign id } := rfl

theorem State.accept_eq (s : State) (p : Pos) (d : Delivery) : s.accept p d =
    { s with positions := (s.accept p d).positions, ports := (s.accept p d).ports } := by
  unfold State.accept; dsimp only
  split
  · simp only [State.report, State.send, State.setPort]; rw [State.evaluateSample_eq]; rfl
  · rw [State.evaluateSample_eq]; rfl

theorem State.landNormally_eq (s : State) (p : Pos) (d : Delivery) : s.landNormally p d =
    { s with positions := (s.landNormally p d).positions, ports := (s.landNormally p d).ports } := by
  unfold State.landNormally
  split <;> first | exact s.accept_eq p d | rfl

theorem State.decouple_eq (s : State) : s.decouple =
    { s with positions := s.decouple.positions, trailerPresent := false } := by
  simp only [State.decouple, State.mapPos]

theorem State.recouple_eq (s : State) : s.recouple =
    { s with positions := s.recouple.positions, trailerPresent := true } := by
  simp only [State.recouple, State.mapPos]

/-! ### The teach session -/

theorem State.endTeach_eq (s : State) (o : TeachOutcome) : s.endTeach o =
    { s with
      teach := none, ports := (s.endTeach o).ports
      grant := { s.grant with idleTimer := (s.endTeach o).grant.idleTimer } } := by
  unfold State.endTeach
  split
  · rename_i h; rw [← h]
  · rfl

theorem State.advanceTeach_eq (s : State) (t : TeachSession) (h : Pos) (rest : List Pos) (n : Nat) :
    s.advanceTeach t h rest n =
      { s with
        teach := (s.advanceTeach t h rest n).teach, ports := (s.advanceTeach t h rest n).ports
        grant := { s.grant with idleTimer := (s.advanceTeach t h rest n).grant.idleTimer } } := by
  unfold State.advanceTeach; dsimp only
  split
  · rw [State.endTeach_eq]; rfl
  · rfl

theorem State.removeFromTeach_eq (s : State) (gone : Pos → Bool) (also : Bool) (o : TeachOutcome) :
    s.removeFromTeach gone also o =
      { s with
        teach := (s.removeFromTeach gone also o).teach, ports := (s.removeFromTeach gone also o).ports
        grant := { s.grant with idleTimer := (s.removeFromTeach gone also o).grant.idleTimer } } := by
  unfold State.removeFromTeach
  split
  · rfl
  · dsimp only
    split
    · rw [State.endTeach_eq]
    · rfl

theorem State.teachReset_eq (s : State) (p : Pos) (id : Option SensorId) : s.teachReset p id =
    { s with
      positions := (s.recordReset p id).positions, foreign := foreignWithout s.foreign id
      grant := { s.grant with marks := s.grant.marks.set (sectionOf (inTruck p)) true } } := rfl

/-- What a trigger during a session may change: positions, foreign list, session, ports, changed marks and
the idle timer. -/
def TeachChange (s t : State) : Prop :=
  ∃ positions foreign teach ports idleTimer marks, t = { s with
    positions := positions, foreign := foreign, teach := teach, ports := ports
    grant := { s.grant with idleTimer := idleTimer, marks := marks } }

theorem TeachChange.of_landNormally (s : State) (p : Pos) (d : Delivery) :
    TeachChange s (s.landNormally p d) := ⟨_, _, _, _, _, _, State.landNormally_eq s p d⟩

theorem TeachChange.of_restoreHold (s : State) (p : Pos) : TeachChange s (s.restoreHold p) :=
  ⟨_, _, _, _, _, _, State.restoreHold_eq s p⟩

theorem TeachChange.of_teachReset (s : State) (p : Pos) (id : Option SensorId) :
    TeachChange s (s.teachReset p id) := ⟨_, _, _, _, _, _, State.teachReset_eq s p id⟩

theorem TeachChange.of_advanceTeach (s : State) (t : TeachSession) (h : Pos) (rest : List Pos) (n : Nat) :
    TeachChange s (s.advanceTeach t h rest n) := ⟨_, _, _, _, _, _, State.advanceTeach_eq s t h rest n⟩

theorem TeachChange.of_teachIgnored (s : State) (code : Byte) (id : SensorId) (p h : Pos) :
    TeachChange s (s.teachIgnored code id p h) := ⟨_, _, _, _, _, _, State.notice_eq s code _⟩

theorem TeachChange.refl (s : State) : TeachChange s s := ⟨_, _, _, _, _, _, rfl⟩

theorem TeachChange.trans {s t u : State} (h : TeachChange s t) (k : TeachChange t u) : TeachChange s u := by
  obtain ⟨a, b, c, d, e, f, rfl⟩ := h
  obtain ⟨a, b, c, d, e, f, rfl⟩ := k
  exact ⟨a, b, c, d, e, f, rfl⟩

theorem State.teachConfirm_change (s : State) (t : TeachSession) (h : Pos) (rest : List Pos) (d : Delivery) :
    TeachChange s (s.teachConfirm t h rest d) := by
  unfold State.teachConfirm; dsimp only
  refine .trans (.trans ?_ (.of_landNormally _ h d)) (.of_advanceTeach _ t h rest 1)
  split
  · exact .of_restoreHold s h
  · exact .refl s

theorem State.teachAssign_change (s : State) (t : TeachSession) (h : Pos) (rest : List Pos) (d : Delivery)
    (q : Option Pos) : TeachChange s (s.teachAssign t h rest d q) := by
  unfold State.teachAssign; dsimp only
  refine .trans (.trans (.trans ?_ (.of_teachReset _ h _)) (.of_landNormally _ h d)) (.of_advanceTeach _ t h rest _)
  cases q with
  | none => exact .refl s
  | some q => exact .of_teachReset s q none

theorem State.teachTrigger_change (s : State) (t : TeachSession) (d : Delivery) :
    TeachChange s (s.teachTrigger t d) := by
  unfold State.teachTrigger
  split
  · exact .refl s
  · split
    · split
      · exact s.teachConfirm_change _ _ _ _
      · split
        · exact .trans (.of_landNormally s _ d) (.of_teachIgnored _ _ _ _ _)
        · split
          · exact .trans (.of_landNormally s _ d) (.of_teachIgnored _ _ _ _ _)
          · exact s.teachAssign_change _ _ _ _ _
    · split
      · exact ⟨_, _, _, _, _, _, State.notice_eq _ _ _⟩
      · exact s.teachAssign_change _ _ _ _ _

/-- A delivery changes positions, foreign list, session, ports, changed marks, the idle timer and the WARN
line alone. -/
theorem State.deliver_eq (s : State) (d : Delivery) : s.deliver d =
    { s with
      positions := (s.deliver d).positions, foreign := (s.deliver d).foreign, warn := (s.deliver d).warn
      teach := (s.deliver d).teach, ports := (s.deliver d).ports
      grant := { s.grant with
        idleTimer := (s.deliver d).grant.idleTimer, marks := (s.deliver d).grant.marks } } := by
  have key : ∃ warn t, TeachChange s t ∧ s.deliver d = { t with warn := warn } := by
    unfold State.deliver
    split
    · split
      · exact ⟨_, _, s.teachTrigger_change _ d, State.recomputeWarn_eq _⟩
      · exact ⟨s.warn, _, ⟨s.positions, foreignUpdate s.foreign d, s.teach, s.ports, s.grant.idleTimer,
          s.grant.marks, rfl⟩, rfl⟩
    · split
      · exact ⟨_, _, .refl s, rfl⟩
      · split
        · exact ⟨_, _, s.teachTrigger_change _ d, State.recomputeWarn_eq _⟩
        · exact ⟨_, _, .of_landNormally s _ d, State.recomputeWarn_eq _⟩
  obtain ⟨warn, t, ⟨_, _, _, _, _, _, rfl⟩, h⟩ := key
  rw [h]

/-! ### The stack, the grant, the ports -/

theorem State.changeStack_eq (s : State) (c : StackChange) : s.changeStack c =
    { s with
      stack := c.stack, positions := (s.changeStack c).positions, ports := (s.changeStack c).ports } := by
  unfold State.changeStack; dsimp only
  split
  · rw [State.reevaluate_eq]; rfl
  · rfl

theorem State.handover_eq (s : State) : s.handover =
    { s with grant := s.handover.grant, ports := s.handover.ports } := by
  unfold State.handover
  split <;> rfl

/-- The end of a tenure changes session, grant and ports alone, and not the truck lock. -/
theorem State.endTenure_eq (s : State) (p : Port) : s.endTenure p =
    { s with
      teach := none, ports := (s.endTenure p).ports
      grant := { (s.endTenure p).grant with truckLock := s.grant.truckLock } } := by
  unfold State.endTenure; dsimp only
  rw [State.endTeach_eq]
  split
  · rfl
  · unfold State.handover
    split <;> rfl

theorem State.portReset_eq (s : State) (p : Port) : s.portReset p =
    { s with
      teach := (s.portReset p).teach, ports := (s.portReset p).ports
      grant := { (s.portReset p).grant with truckLock := s.grant.truckLock } } := by
  unfold State.portReset State.grantPortReset; dsimp only
  split
  · rw [State.endTenure_eq]; rfl
  · rfl

theorem State.reportAxle_eq (s : State) (port : Port) (a : AxleNo) : s.reportAxle port a =
    { s with ports := (s.reportAxle port a).ports } := by
  unfold State.reportAxle
  generalize s.visited a (s.settings.order.get port) 0 4 = ps
  induction ps generalizing s with
  | nil => rfl
  | cons q qs ih => exact ih (s.report port 5 codePositionReport (s.positionReport q port))

/-! ### Edits -/

theorem State.resetAll_eq (s : State) (ps : List Pos) : s.resetAll ps =
    { s with positions := (s.resetAll ps).positions, foreign := (s.resetAll ps).foreign } := by
  unfold State.resetAll
  induction ps generalizing s with
  | nil => rfl
  | cons p ps ih =>
    rw [List.foldl_cons, ih]
    split
    · rw [State.recordReset_eq]
    · rfl

theorem State.changeKind_eq (s : State) (a : AxleNo) (k : AxleKind) : s.changeKind a k =
    { s with
      axles := (s.setAxle a { s.axle a with kind := k }).axles, positions := (s.changeKind a k).positions
      foreign := (s.changeKind a k).foreign, context := (s.changeKind a k).context
      teach := (s.changeKind a k).teach, ports := (s.changeKind a k).ports
      grant := { s.grant with idleTimer := (s.changeKind a k).grant.idleTimer } } := by
  unfold State.changeKind; dsimp only
  split
  · unfold State.lowerAxle; rw [State.removeFromTeach_eq, State.resetAll_eq]; rfl
  · rw [State.removeFromTeach_eq, State.resetAll_eq]; rfl

end Sys2Proof.Machine
end

