-- ==== Sys2Proof/Laws/PerInstr.lean ====
section
/-! SUPPORT. Facts about every command as a term, one lemma per constructor of `Instr`. -/

namespace Sys2Proof.Laws

open Sys2Proof.Machine

/-- A well-formed command that is a request carries the code of a request of the part, unless it is the
request with an unknown code (R166, R180). -/
def RequestCode.Statement (i : Instr) : Prop :=
  ∀ code r, i.wellFormed = true → requestOf i = some (code, r) →
    (namesRequest code = true ↔ i ≠ .unknownRequest code r)

theorem RequestCode.deviceReset : ∀ x y, RequestCode.Statement (.deviceReset x y) := by
  intro x y code r hw hr; simp [requestOf] at hr

theorem RequestCode.endOfStarting : RequestCode.Statement .endOfStarting := by
  intro code r hw hr; simp [requestOf] at hr

theorem RequestCode.receivedByte : ∀ x y z, RequestCode.Statement (.receivedByte x y z) := by
  intro x y z code r hw hr; simp [requestOf] at hr

theorem RequestCode.gapExpiry : ∀ x, RequestCode.Statement (.gapExpiry x) := by
  intro x code r hw hr; simp [requestOf] at hr

theorem RequestCode.windowExpiry : ∀ x y, RequestCode.Statement (.windowExpiry x y) := by
  intro x y code r hw hr; simp [requestOf] at hr

theorem RequestCode.deadlineExpiry : ∀ x, RequestCode.Statement (.deadlineExpiry x) := by
  intro x code r hw hr; simp [requestOf] at hr

theorem RequestCode.stepDeadlineExpiry : RequestCode.Statement .stepDeadlineExpiry := by
  intro code r hw hr; simp [requestOf] at hr

theorem RequestCode.trlChange : ∀ x, RequestCode.Statement (.trlChange x) := by
  intro x code r hw hr; simp [requestOf] at hr

theorem RequestCode.trlDebounceExpiry : RequestCode.Statement .trlDebounceExpiry := by
  intro code r hw hr; simp [requestOf] at hr

theorem RequestCode.bodyChange : ∀ x, RequestCode.Statement (.bodyChange x) := by
  intro x code r hw hr; simp [requestOf] at hr

theorem RequestCode.bodyDebounceExpiry : RequestCode.Statement .bodyDebounceExpiry := by
  intro code r hw hr; simp [requestOf] at hr

theorem RequestCode.flashPhase : RequestCode.Statement .flashPhase := by
  intro code r hw hr; simp [requestOf] at hr

theorem RequestCode.cyclicReport : ∀ x, RequestCode.Statement (.cyclicReport x) := by
  intro x code r hw hr; simp [requestOf] at hr

theorem RequestCode.frameOffer : ∀ x, RequestCode.Statement (.frameOffer x) := by
  intro x code r hw hr; simp [requestOf] at hr

theorem RequestCode.attemptEnd : ∀ x y, RequestCode.Statement (.attemptEnd x y) := by
  intro x y code r hw hr; simp [requestOf] at hr

theorem RequestCode.busOffReturn : ∀ x, RequestCode.Statement (.busOffReturn x) := by
  intro x code r hw hr; simp [requestOf] at hr

theorem RequestCode.idleExpiry : RequestCode.Statement .idleExpiry := by
  intro code r hw hr; simp [requestOf] at hr

theorem RequestCode.sectionSave : ∀ x, RequestCode.Statement (.sectionSave x) := by
  intro x code r hw hr; simp [requestOf] at hr

theorem RequestCode.readPosition : ∀ x, RequestCode.Statement (.readPosition x) := by
  intro x code r hw hr
  obtain ⟨rfl, rfl⟩ : _ = code ∧ x = r := by simpa [requestOf] using hr
  simp [namesRequest, requestCodes]

theorem RequestCode.readAxle : ∀ x, RequestCode.Statement (.readAxle x) := by
  intro x code r hw hr
  obtain ⟨rfl, rfl⟩ : _ = code ∧ x = r := by simpa [requestOf] using hr
  simp [namesRequest, requestCodes]

theorem RequestCode.readProfile : ∀ x, RequestCode.Statement (.readProfile x) := by
  intro x code r hw hr
  obtain ⟨rfl, rfl⟩ : _ = code ∧ x = r := by simpa [requestOf] using hr
  simp [namesRequest, requestCodes]

theorem RequestCode.readSettings : ∀ x, RequestCode.Statement (.readSettings x) := by
  intro x code r hw hr
  obtain ⟨rfl, rfl⟩ : _ = code ∧ x = r := by simpa [requestOf] using hr
  simp [namesRequest, requestCodes]

theorem RequestCode.readForeign : ∀ x, RequestCode.Statement (.readForeign x) := by
  intro x code r hw hr
  obtain ⟨rfl, rfl⟩ : _ = code ∧ x = r := by simpa [requestOf] using hr
  simp [namesRequest, requestCodes]

theorem RequestCode.readLineStatus : ∀ x, RequestCode.Statement (.readLineStatus x) := by
  intro x code r hw hr
  obtain ⟨rfl, rfl⟩ : _ = code ∧ x = r := by simpa [requestOf] using hr
  simp [namesRequest, requestCodes]

theorem RequestCode.readStack : ∀ x, RequestCode.Statement (.readStack x) := by
  intro x code r hw hr
  obtain ⟨rfl, rfl⟩ : _ = code ∧ x = r := by simpa [requestOf] using hr
  simp [namesRequest, requestCodes]

theorem RequestCode.readStatus : ∀ x, RequestCode.Statement (.readStatus x) := by
  intro x code r hw hr
  obtain ⟨rfl, rfl⟩ : _ = code ∧ x = r := by simpa [requestOf] using hr
  simp [namesRequest, requestCodes]

theorem RequestCode.ack : ∀ x, RequestCode.Statement (.ack x) := by
  intro x code r hw hr
  obtain ⟨rfl, rfl⟩ : _ = code ∧ x = r := by simpa [requestOf] using hr
  simp [namesRequest, requestCodes]

theorem RequestCode.hold : ∀ x, RequestCode.Statement (.hold x) := by
  intro x code r hw hr
  obtain ⟨rfl, rfl⟩ : _ = code ∧ x = r := by simpa [requestOf] using hr
  simp [namesRequest, requestCodes]

theorem RequestCode.unhold : ∀ x, RequestCode.Statement (.unhold x) := by
  intro x code r hw hr
  obtain ⟨rfl, rfl⟩ : _ = code ∧ x = r := by simpa [requestOf] using hr
  simp [namesRequest, requestCodes]

theorem RequestCode.push : ∀ x, RequestCode.Statement (.push x) := by
  intro x code r hw hr
  obtain ⟨rfl, rfl⟩ : _ = code ∧ x = r := by simpa [requestOf] using hr
  simp [namesRequest, requestCodes]

theorem RequestCode.pop : ∀ x, RequestCode.Statement (.pop x) := by
  intro x code r hw hr
  obtain ⟨rfl, rfl⟩ : _ = code ∧ x = r := by simpa [requestOf] using hr
  simp [namesRequest, requestCodes]

theorem RequestCode.grantRequest : ∀ x, RequestCode.Statement (.grantRequest x) := by
  intro x code r hw hr
  obtain ⟨rfl, rfl⟩ : _ = code ∧ x = r := by simpa [requestOf] using hr
  simp [namesRequest, requestCodes]

theorem RequestCode.grantRelease : ∀ x, RequestCode.Statement (.grantRelease x) := by
  intro x code r hw hr
  obtain ⟨rfl, rfl⟩ : _ = code ∧ x = r := by simpa [requestOf] using hr
  simp [namesRequest, requestCodes]

theorem RequestCode.writePosition : ∀ x, RequestCode.Statement (.writePosition x) := by
  intro x code r hw hr
  obtain ⟨rfl, rfl⟩ : _ = code ∧ x = r := by simpa [requestOf] using hr
  simp [namesRequest, requestCodes]

theorem RequestCode.writeAxle : ∀ x, RequestCode.Statement (.writeAxle x) := by
  intro x code r hw hr
  obtain ⟨rfl, rfl⟩ : _ = code ∧ x = r := by simpa [requestOf] using hr
  simp [namesRequest, requestCodes]

theorem RequestCode.writeProfile : ∀ x, RequestCode.Statement (.writeProfile x) := by
  intro x code r hw hr
  obtain ⟨rfl, rfl⟩ : _ = code ∧ x = r := by simpa [requestOf] using hr
  simp [namesRequest, requestCodes]

theorem RequestCode.writeSettings : ∀ x, RequestCode.Statement (.writeSettings x) := by
  intro x code r hw hr
  obtain ⟨rfl, rfl⟩ : _ = code ∧ x = r := by simpa [requestOf] using hr
  simp [namesRequest, requestCodes]

theorem RequestCode.clearSection : ∀ x, RequestCode.Statement (.clearSection x) := by
  intro x code r hw hr
  obtain ⟨rfl, rfl⟩ : _ = code ∧ x = r := by simpa [requestOf] using hr
  simp [namesRequest, requestCodes]

theorem RequestCode.lockTruck : ∀ x, RequestCode.Statement (.lockTruck x) := by
  intro x code r hw hr
  obtain ⟨rfl, rfl⟩ : _ = code ∧ x = r := by simpa [requestOf] using hr
  simp [namesRequest, requestCodes]

theorem RequestCode.teachStart : ∀ x, RequestCode.Statement (.teachStart x) := by
  intro x code r hw hr
  obtain ⟨rfl, rfl⟩ : _ = code ∧ x = r := by simpa [requestOf] using hr
  simp [namesRequest, requestCodes]

theorem RequestCode.teachAppend : ∀ x, RequestCode.Statement (.teachAppend x) := by
  intro x code r hw hr
  obtain ⟨rfl, rfl⟩ : _ = code ∧ x = r := by simpa [requestOf] using hr
  simp [namesRequest, requestCodes]

theorem RequestCode.teachAbort : ∀ x, RequestCode.Statement (.teachAbort x) := by
  intro x code r hw hr
  obtain ⟨rfl, rfl⟩ : _ = code ∧ x = r := by simpa [requestOf] using hr
  simp [namesRequest, requestCodes]

theorem RequestCode.vehicleState : ∀ x, RequestCode.Statement (.vehicleState x) := by
  intro x code r hw hr
  obtain ⟨rfl, rfl⟩ : _ = code ∧ x = r := by simpa [requestOf] using hr
  simp [namesRequest, requestCodes]

theorem RequestCode.unknownRequest : ∀ x y, RequestCode.Statement (.unknownRequest x y) := by
  intro x y code r hw hr
  obtain ⟨rfl, rfl⟩ : x = code ∧ y = r := by simpa [requestOf] using hr
  simpa [Instr.wellFormed] using hw

theorem RequestCode.keptTickSaturation : RequestCode.Statement .keptTickSaturation := by
  intro code r hw hr; simp [requestOf] at hr

end Sys2Proof.Laws
end

