-- ==== Sys2Proof/Tests/Slice0.lean ====
section
/-! SUPPORT. Tests: terms that are no commands, the manual's worked figures, and for every statement with
hypotheses a state and operands that meet them. -/

namespace Sys2Proof.Machine.Tests

set_option maxRecDepth 20000

/-! ### Small states and frames -/

/-- A request of the part's own address from node 10h. -/
def req (p : Port) (bytes : List Byte) : Request :=
  { port := p, form := .data29, priority := 6, cls := 0, target := 0x70, sender := 0x10,
    dlc := BitVec.ofNat 4 bytes.length, data := Vector.ofFn fun i => bytes.getD i.val 0 }

/-- The state that a command leaves. -/
def run (c : Instr) (s : State) : State :=
  match exec c s with
  | .next t => t
  | .fault _ => s
  | .refused _ => s

/-- The sensor of section 1.10 and what it sent. -/
def idA : SensorId := 0x3A1C05E2
def contentA : Content :=
  { kind := .periodic, motion := true, batteryLow := false, sensorFault := false,
    pressure := some 1000, temperature := some 65 }
def heardA : Heard :=
  { bestRssi := 180, bestLine := 0, lineMask := 1, frameSet := 1, copyCount := 1, conflict := false }

/-- An ACTIVE position whose last sample came at tick 900. -/
def active (id : SensorId) (seq : BitVec 4) : Position :=
  { Position.empty with
    sensor := some id, state := .active, lastTemp := some 65, pc := some 766
    sample := some { content := contentA, seq := seq, heard := heardA, tick := keep 900 }
    leakHistory := [{ pc := 766, tick := keep 900 }]
    deadline := some 1500 }

/-- A WAITING position. -/
def waiting (id : SensorId) : Position :=
  { Position.empty with sensor := some id, state := .waiting, deadline := some 7000 }

/-- A HELD position that was ACTIVE, with `n` ticks remaining. -/
def held (id : SensorId) (n : Nat) : Position :=
  { active id 3 with
    state := .held, beforeHold := some .active, remaining := some n, deadline := none, leakHistory := [] }

/-- RUNNING at tick 1000 with the trailer coupled: axle 2 TWIN with 8 and 9 ACTIVE and 11 WAITING, axle 5
SINGLE with 20 HELD. -/
def base : State :=
  ((((({ State.reset with phase := .running, tick := 1000, trl := true, trailerPresent := true } : State).setAxle 2
    { kind := .twin, unladen := 700, laden := 850 }).setAxle 5 { kind := .single, unladen := 700, laden := 850 }).setPos
    8 (active idA 9)).setPos 9 (active 7 4)).setPos 11 (waiting 8) |>.setPos 20 (held 9 40)

/-- The same with port A holding the grant, its idle timer at the end of its 30 s. -/
def edited : State :=
  { base with grant := { base.grant with state := .held .a, idleTimer := some 700 } }

/-- A delivery of sensor `id` at tick 1000. -/
def delivery (id : SensorId) (kind : TeleKind) (seq : BitVec 4) : Delivery :=
  { id := id, seq := seq, content := { contentA with kind := kind }, heard := heardA, tick := 1000 }

/-- A line frame of telegram bytes 0 to 8: CRC, RSSI B4h and line check added (R10, R11). -/
def frameOf (t : List Byte) : List Byte :=
  let body := t ++ [crc8 t, 0xB4]
  body ++ [0 - body.foldl (· + ·) 0x0C]

/-- The telegram of section 1.10, bytes 0 to 8 (R179). -/
def telegramA : List Byte := [0x3A, 0x1C, 0x05, 0xE2, 0x19, 0x01, 0x01, 0xF4, 0x73]

/-- Line 0 in BODY with some bytes stored. -/
def inBody (bytes : List Byte) : State :=
  base.setLine 0 { Line.atReset with assembly := .body, store := bytes, gapTimer := some 1000 }

/-! ### The laws hold in `base` -/

theorem base_positions : ∀ p, base.pos p = Position.empty ∨ base.pos p = active idA 9 ∨
    base.pos p = active 7 4 ∨ base.pos p = waiting 8 ∨ base.pos p = held 9 40 := by decide

theorem empty_lawful : Position.empty.Lawful :=
  ⟨by decide, by decide, by decide, by decide, by decide, by decide, by decide, by decide, by decide, by decide⟩
theorem active_lawful (id : SensorId) (seq : BitVec 4) : (active id seq).Lawful where
  unassigned h := nomatch h
  assigned _ := rfl
  deadline := by simp [active]
  held := by simp [active, Position.empty]
  before := .inl rfl
  remaining := by simp [active, Position.empty]
  quiet h := absurd rfl h
  frozen _ := hasKind_zero _
  alive _ := hasKind_zero _
  sampled _ := rfl
theorem waiting_lawful (id : SensorId) : (waiting id).Lawful where
  unassigned h := nomatch h
  assigned _ := rfl
  deadline := by simp [waiting]
  held := by simp [waiting, Position.empty]
  before := .inl rfl
  remaining := by simp [waiting, Position.empty]
  quiet _ _ := rfl
  frozen _ := hasKind_zero _
  alive _ := hasKind_zero _
  sampled := by simp [waiting, Position.empty]
theorem held_lawful (id : SensorId) (n : Nat) : (held id n).Lawful where
  unassigned h := nomatch h
  assigned _ := rfl
  deadline := by simp [held]
  held := by simp [held]
  before := .inr (.inr (.inl rfl))
  remaining := by simp [held]
  quiet _ _ := rfl
  frozen _ := hasKind_zero _
  alive _ := hasKind_zero _
  sampled _ := rfl

/-- Distinct IDs, judged position by position. -/
theorem identityLaw_of (s : State) (h1 : ∀ p, (s.pos p).sensor.all validId = true)
    (h2 : ∀ p, (s.pos p).sensor.isSome = true → s.posExists p = true)
    (h3 : ∀ p q, (s.pos p).sensor.isSome = true → (s.pos p).sensor = (s.pos q).sensor → p = q) :
    s.IdentityLaw where
  valid p id h := by have := h1 p; rw [h] at this; exact this
  present := h2
  distinct p q id hp hq := h3 p q (by rw [hp]; rfl) (hp.trans hq.symm)

theorem base_identity : base.IdentityLaw := identityLaw_of base (by decide) (by decide) (by decide)

theorem base_position : base.PositionLaw where
  lawful p := by
    rcases base_positions p with h | h | h | h | h <;> rw [h]
    · exact empty_lawful
    · exact active_lawful _ _
    · exact active_lawful _ _
    · exact waiting_lawful _
    · exact held_lawful _ _
  detached := by decide

/-! ### Terms that are no commands -/

theorem test_knownCode_is_no_unknownRequest : (Instr.unknownRequest 0x01 (req .a [])).wellFormed = false := by
  decide
theorem test_zeroId_has_no_window : (Instr.windowExpiry 0x00000000 3).wellFormed = false := by decide
theorem test_allOnesId_has_no_window : (Instr.windowExpiry 0xFFFFFFFF 3).wellFormed = false := by decide
theorem test_knownCode_is_refused :
    exec (.unknownRequest 0x50 (req .a [])) base = .refused (.codeNamesARequest 0x50) := rfl

/-! ### Worked figures of the manual -/

/-- Section 1.10. -/
theorem test_copy_of_section_1_10 : validate 0 (frameOf telegramA) = .valid
    { id := 0x3A1C05E2, seq := 9, frameIndex := 1, content := contentA, rssi := 180, line := 0 } := by decide

/-- The table at the end of section 1.10. -/
theorem test_pressure_fields : [0x03FF, 0x05F4, 0x0000, 0x03FE].map decodePressure =
    [none, none, some 0, some 2044] := by decide
theorem test_temperature_bytes : [0xFF, 0x00, 0xFE].map decodeTemperature = [none, some (-50), some 204] := by
  decide

/-- R10's example: a sum of 5Bh needs LCHK A5h. -/
theorem test_lineCheck : lineCheck [0x4F, 0, 0, 0, 0, 0, 0, 0, 0, 0, 0, 0xA5] = true := by decide

/-- Section 4.3. -/
theorem test_coldPressure_figures :
    [coldPressure 1000 65 20 101, coldPressure 880 (-10) 20 101, coldPressure 750 27 20 101,
     coldPressure 2044 (-50) 40 60, coldPressure 0 27 20 101, coldPressure 900 20 20 101,
     coldPressure 900 60 20 101, coldPressure 1000 65 20 95] = [766, 879, 632, 1500, 0, 799, 691, 772] := by
  decide

/-- Section 4.4: the target of axle 2 at a load. -/
def targetAt (tu tl load : Nat) (mask : AxleMask) : Int :=
  ({ base with context := { base.context with load := load, truckLifted := mask } } : State).setAxle 2
    { kind := .twin, unladen := tu, laden := tl } |>.target 2

theorem test_targets :
    [targetAt 700 850 63 0, targetAt 700 650 63 0, targetAt 700 850 100 0, targetAt 700 850 0 0,
     targetAt 700 850 63 4, targetAt 100 1200 99 0, targetAt 1200 100 1 0] =
      [794, 669, 850, 700, 700, 1189, 1189] := by decide

/-- Section 4.5. -/
theorem test_thresholds :
    [thresholds 794 .default, thresholds 850 .default, thresholds 700 .default] =
      [⟨714, 635, 913⟩, ⟨765, 680, 977⟩, ⟨630, 560, 805⟩] := by decide

/-- R70: the largest loss is clamped to 999; a span below 200 gives no rate. -/
theorem test_leakRates :
    [leakRateOf [⟨1500, keep 0⟩, ⟨0, keep 200⟩], leakRateOf [⟨700, keep 0⟩, ⟨600, keep 199⟩],
     leakRateOf [⟨700, keep 0⟩, ⟨700, keep 400⟩]] = [some 999, none, some 0] := by decide

/-- Section 5.10: timeouts of learned intervals, and without one. -/
theorem test_timeouts :
    [timeoutOf (some 158) true, timeoutOf (some 1205) false, timeoutOf (some 1210) false, timeoutOf none true,
     timeoutOf none false, timeoutOf (some 50) true, timeoutOf (some 6000) true] =
      [632, 4820, 4840, 600, 6000, 300, 18000] := by decide

/-- What WRITE PROFILE stores of the four adjusted fields on profile 0, and whether CLAMPED (R95). -/
def writeOf (uw uc ow : Option Nat) (tw tc : Option Int) : List Int × Bool :=
  let x := ProfileWrite.result
    { index := 0, enable := none, uw := uw, uc := uc, ow := ow, hyst := none, tw := tw, tc := tc, th := none,
      ib := none, lk := none } Profile.default
  ([x.1.uw, x.1.uc, x.1.ow, x.1.tw, x.1.tc], x.2)

/-- The table of R95. -/
theorem test_profile_writes :
    [writeOf (some 920) none none none none, writeOf (some 780) none none none none,
     writeOf none (some 900) none none none, writeOf none none (some 1600) none none,
     writeOf none none none (some 120) none, writeOf none none none (some 150) (some 160),
     writeOf none none none none (some 40)] =
      [([920, 800, 1150, 85, 105], false), ([780, 770, 1150, 85, 105], true),
       ([900, 890, 1150, 85, 105], true), ([900, 800, 1500, 85, 105], true),
       ([900, 800, 1150, 120, 125], true), ([900, 800, 1150, 150, 160], false),
       ([900, 800, 1150, 85, 90], true)] := by decide

/-- The table of R55, from the four start slots. -/
theorem test_visiting_orders :
    ([0, 1, 2, 3] : List Slot).map (fun st => ([0, 1, 2, 3].map (visitedSlot .linear st),
      [0, 1, 2, 3].map (visitedSlot .twin st))) =
      [([0, 1, 2, 3], [0, 1, 2, 3]), ([1, 2, 3, 0], [1, 0, 3, 2]), ([2, 3, 0, 1], [2, 3, 0, 1]),
       ([3, 0, 1, 2], [3, 2, 1, 0])] := by decide

/-- The axle read of section 3.14. -/
theorem test_twin_axle_read : base.visited 2 .twin 1 4 = [9, 8, 11, 10] := by decide

/-- Section 6.12: the crowded stack, its entries named by index. -/
def crowded : State :=
  { base with stack := [{ index := 0, origin := .reset }, { index := 1, origin := .body }] }

theorem test_push_on_crowded_stack :
    (run (.push (req .b [3])) (run (.push (req .a [2])) crowded)).stack =
      [{ index := 1, origin := .body }, { index := 2, origin := .port .a }, { index := 3, origin := .port .b }] := by
  decide
theorem test_pop_takes_own_topmost :
    withoutTopmost [{ index := 2, origin := .port .a }, { index := 3, origin := .port .b }] (.port .b) =
      [{ index := 2, origin := .port .a }] := by decide
theorem test_pop_falls_back :
    (popChange [{ index := 2, origin := .port .a }] (.port .a) .pop (some .a)).map (·.stack) =
      some [{ index := 0, origin := .reset }] := by decide

/-- The state after a step. -/
def stepped (s : State) : State :=
  match step s with
  | .next t => t
  | .fault _ => s
  | .refused _ => s

/-- The expiry of the `n`-th run of line 0's gap timer. -/
def gap (n : Nat) : Instr := .gapExpiry { line := 0, number := n }

/-- Line 0 mid-frame in the third run of its gap timer (SYNC, LEN and one byte), with these commands waiting. -/
def racing (cs : List Instr) : State :=
  { base.setLine 0 { (inBody [0x3A]).line 0 with gapRuns := 3 } with pending := cs }

/-- R8: the byte taken first, the frame goes on without an expiry; the expiry of the byte's own run, waiting behind
it, abandons the frame (section 1.9); taken first, the expiry does, and the byte is ignored in HUNT. -/
theorem test_gap_expiry_and_byte :
    ((stepped (stepped (racing [.receivedByte 0 true 0x1C, gap 3]))).line 0).store = [0x3A, 0x1C] ∧
      ((stepped (stepped (racing [.receivedByte 0 true 0x1C, gap 3]))).line 0).framing = 0 ∧
      ((stepped (stepped (racing [.receivedByte 0 true 0x1C, gap 4]))).line 0).assembly = .hunt ∧
      ((stepped (stepped (racing [.receivedByte 0 true 0x1C, gap 4]))).line 0).framing = 1 ∧
      ((stepped (stepped (racing [gap 3, .receivedByte 0 true 0x1C]))).line 0).assembly = .hunt ∧
      ((stepped (stepped (racing [gap 3, .receivedByte 0 true 0x1C]))).line 0).framing = 1 := by decide

/-- Section 2.9, the copy at 24 ms: weaker, with another temperature. -/
theorem test_weaker_copy_marks_conflict :
    let e := joinEntry (openEntry
      { id := idA, seq := 9, frameIndex := 0, content := contentA, rssi := 180, line := 0 } 1000)
      { id := idA, seq := 9, frameIndex := 2, content := { contentA with temperature := some 66 }, rssi := 95,
        line := 3 }
    (e.heard.copyCount, e.heard.lineMask, e.heard.frameSet, e.heard.bestRssi, e.heard.conflict,
      e.content.temperature) = (2, 0b1001, 0b0101, 180, true, some 65) := by decide

/-- R94. -/
theorem test_tipping_profile : factoryProfiles[1] = Profile.tipping ∧
    hasKind Profile.tipping.enable .leak = false ∧ hasKind Profile.tipping.enable .imbalance = false ∧
    hasKind Profile.tipping.enable .missing = true := by decide

/-- R127 at the default pattern: high for 5 ticks, low for 5, then a new phase. -/
theorem test_flash_pattern :
    let w : Warn := { level := .flash, phaseStart := 100, high := true }
    [flashStep w 10 5 104, flashStep w 10 5 105, flashStep w 10 5 110] =
      [w, { w with high := false }, { w with phaseStart := 110 }] := by decide

/-- R165: identifier of an answer to READ STATUS from the part at 70h to node 10h. -/
theorem test_answer_identifier : frameIdent 4 classAnswer 0x08 0x10 0x70 = 0x11081070#29 := by decide

/-- R180, bits 28 to 0 written out: priority 6, class 0, code 08h, target 70h, sender 10h. -/
theorem test_request_of_identifier :
    (BusFrame.mk .b .data29 0b11000_00001000_01110000_00010000 0 (Vector.replicate 8 0)).command =
      .readStatus { req .b [] with dlc := 0, data := Vector.replicate 8 0 } := by decide

/-- R180: a code that names no request. -/
theorem test_unknown_code_of_identifier :
    (BusFrame.mk .a .data29 0b11000_10011001_01110000_00010000 0 (Vector.replicate 8 0)).command =
      .unknownRequest 0x99 (req .a []) := by decide

/-- R184: byte 4 of READ STATUS frame 4 with L DEFAULTED and P WRITE-FAILED (their places: log 32). -/
theorem test_section_flag_places :
    (statusBytes4 { base with flags := { t := ⟨false, false⟩, l := ⟨true, false⟩, p := ⟨false, true⟩ } })[4]? =
      some 0x12 := by decide

/-- R164: a cut before the erase of L leaves its old image, and one within the write leaves no marker. -/
theorem test_cut_before_the_erase :
    let saving : State := { edited with grant :=
      { edited.grant with state := .saving, idleTimer := none, toSave := [.l, .p] } }
    (run (.deviceReset 0 .notReached) saving).store = saving.store ∧
      ((run (.deviceReset 0 .unmarked) saving).store.l).marker ≠ 0xA5 := by decide

/-- R164, R163: after two failed verifies the section is erased and marked. -/
theorem test_failed_save_marks_section :
    let t := run (.sectionSave .failedTwice) { edited with grant :=
      { edited.grant with state := .saving, idleTimer := none, toSave := [.l, .p] } }
    t.flags.l = { defaulted := false, writeFailed := true } ∧ t.store.l = erasedSection .l ∧
      t.grant.toSave = [.p] := by decide

/-- R48, R49: the trailer gone for 2 s. -/
theorem test_decoupling_detaches :
    let t := run .trlDebounceExpiry { base with trl := false, trlTimer := some 980 }
    (t.pos 20).state = .detached ∧ (t.pos 8).state = .active ∧ t.trailerPresent = false := by decide

/-- R52: HOLD of position 8 keeps the 500 ticks that its deadline leaves. -/
theorem test_hold_keeps_remaining : ((run (.hold (req .b [8])) base).pos 8).remaining = some 500 := by decide

/-- R147: the idle timer's end loses the grant; nothing was changed, so it is FREE. -/
theorem test_idle_expiry_frees : (run .idleExpiry edited).grant.state = .free := by decide

/-- R147, R148: an edit taken first restarts the timer, and a release taken first hands the grant to the waiting
port with a fresh timer; the expiry then does not occur. -/
theorem test_idle_expiry_after_restart :
    (run .idleExpiry (run (.lockTruck (req .a [])) edited)).grant.state = .held .a ∧
      (run .idleExpiry (run (.grantRelease (req .a []))
        { edited with grant := { edited.grant with waiting := [.b] } })).grant.state = .held .b := by decide

/-- R161: requests are NOT-READY while STARTING. -/
theorem test_not_ready :
    ((run (.readStatus (req .a [])) State.reset).port .a).queue.map (·.data) = [[0x86]] := by decide

/-- R175: axle 2 is the first present axle; its four positions are reported and the next number is 3. -/
theorem test_cyclic_report :
    let t := run (.cyclicReport .a) (base.setPort .a { base.port .a with periodDue := some 1000 })
    (t.port .a).nextAxle = 3 ∧ (t.port .a).queue.length = 4 ∧ (t.port .a).periodDue = some 1010 := by decide

/-- R153: a sensor at another position is refused. -/
theorem test_write_position_duplicate :
    ((run (.writePosition (req .a [10, 0, 0x3A, 0x1C, 0x05, 0xE2])) edited).port .a).queue.map (·.data) =
      [[0x82]] := by decide

/-! ### States and operands that meet the hypotheses of the statements -/

theorem base_serves (p : Port) (bytes : List Byte) : base.serves (req p bytes) := by
  cases p <;> exact ⟨rfl, rfl⟩
theorem edited_servesHolder (bytes : List Byte) : edited.servesHolder (req .a bytes) := ⟨⟨rfl, rfl⟩, rfl⟩
theorem base_lamp : base.LampLaw := ⟨by decide, by decide, by decide⟩

/-- SAVING with two sections left, port B waiting. -/
def saving : State :=
  { base with grant := { base.grant with state := .saving, toSave := [.l, .p], waiting := [.b] } }

/-- STARTING with a good section T, the body up and port B in BUS-OFF. -/
def loading : State :=
  { State.reset with
    body := true, store := State.reset.store.set .t (base.sectionImage .t)
    ports := State.reset.ports.set .b { PortCtl.atReset with mode := .busOff 0 } }

/-- An entry of the Merge Buffer for sensor `n`, sequence 0. -/
def entry (n : Nat) : MergeEntry :=
  { id := BitVec.ofNat 32 n, seq := 0, content := contentA, heard := heardA, openingTick := 1000 }

/-- The Merge Buffer with entries for sensors 1 to `n`. -/
def merging (n : Nat) : State := { base with merge := (List.range n).map fun i => entry (i + 1) }

/-- A copy of sensor `n`, sequence 0. -/
def copyOf (n : Nat) : Copy :=
  { id := BitVec.ofNat 32 n, seq := 0, frameIndex := 3, content := contentA, rssi := 200, line := 3 }

theorem merging_law : (merging 12).MergeLaw where
  room := by decide
  keys := by
    show List.Pairwise (fun e f : MergeEntry => ¬ (e.id = f.id ∧ e.seq = f.seq)) _
    decide
  entries e he := by
    have h : ∀ e ∈ (merging 12).merge, validId e.id = true ∧ e.heard.lineMask ≠ 0 ∧ e.heard.frameSet ≠ 0 ∧
        (1 ≤ e.heard.copyCount ∧ e.heard.copyCount ≤ Config.copyCountMax) := by decide
    exact ⟨(h e he).1, (h e he).2.1, (h e he).2.2.1, (h e he).2.2.2⟩

/-- The Foreign Sensor List with sensors 101 to 100 + `n`. -/
def foreigners (n : Nat) : State :=
  { base with foreign := (List.range n).map fun i =>
      { id := BitVec.ofNat 32 (101 + i), hits := 255, rssi := 9, lineMask := 1, tick := keep 900, motionSeen := false } }

theorem foreigners_law : (foreigners 8).ForeignLaw := ⟨by decide, by decide, by decide, by decide⟩

/-- Position 9 MISSING. -/
def missed : State := base.setPos 9 { active 7 4 with state := .missing, deadline := none }

/-- A lamp in FLASH, its phase started at tick 990. -/
def flashing : State := { base with warn := { level := .flash, phaseStart := 990, high := true } }

/-- A report frame at a priority. -/
def frameAt (priority : BitVec 3) (sending : Bool) : TxFrame :=
  { ident := frameIdent priority 2 0x60 0xFF 0x70, data := [], sending := sending }

/-- An ACTIVE port with these frames queued. -/
def portWith (q : List TxFrame) : PortCtl := { PortCtl.atReset with queue := q, periodDue := some 1000 }

/-- A session of port A with positions 10 and 11 in the queue and 8 taught. -/
def session : TeachSession := { owner := .a, queue := [10, 20], taught := [8], stepDeadline := 2000, count := 1 }
def teaching : State := { edited with teach := some session, grant := { edited.grant with idleTimer := none } }

theorem witness_StepRunsFrontCommandOrIdles :
    (State.reset.pending = [] ∧ State.reset.dueEvents = []) ∧
      ({ State.reset with tick := 1 } : State).pending = [] ∧
      ({ State.reset with tick := 1 } : State).dueEvents ≠ [] := by decide

theorem witness_EveryCommandCompletes :
    (Instr.unknownRequest 0x99 (req .a [])).wellFormed = true ∧ (Instr.windowExpiry idA 15).wellFormed = true := by
  decide

theorem witness_DeviceResetRestartsAndKeepsStore :
    (State.reset.phase = .starting ∨ State.reset.grant.state ≠ .saving) ∧
      saving.phase = .running ∧ saving.grant.state = .saving ∧ saving.grant.toSave = .l :: [.p] ∧
      (SectionName.t ≠ .l) ∧ SaveCut.notReached ≠ .unmarked ∧ SaveCut.marked true ≠ .marked false := by decide

theorem witness_EndOfStartingLoadsTheStore :
    loading.phase = .starting ∧ loading.stack = [{ index := 0, origin := .reset }] ∧
      loading.body = true ∧ (run .endOfStarting loading).settings.tipping = some 1 ∧ State.reset.body = false ∧
      loading.warn.level = .off ∧ loading.warn.high = false ∧ (loading.port .a).mode = .active ∧ (loading.port .b).mode ≠ .active ∧
      ((run .endOfStarting loading).pos 0).sensor = none ∧
      ((run .endOfStarting loading).pos 8).sensor = some idA := by decide +kernel

theorem witness_SectionSaveWritesThenHandsOver :
    saving.grant.state = .saving ∧ saving.grant.toSave = .l :: [.p] ∧
      (run (.sectionSave .passedFirst) saving).grant.toSave = .p :: [] ∧ saving.grant.waiting = .b :: [] ∧
      ({ edited with grant := { edited.grant with state := .saving, toSave := [.p] } } : State).grant.waiting = [] := by
  decide

theorem witness_ByteInHuntAndLength :
    base.phase = .running ∧ (base.line 0).assembly = .hunt ∧
      (base.setLine 0 { Line.atReset with assembly := .length }).phase = .running ∧
      ((base.setLine 0 { Line.atReset with assembly := .length }).line 0).assembly = .length ∧
      State.reset.phase = .starting ∧ (0x00 : Byte) ≠ 0x0C#8 ∧ (0x00 : Byte) ≠ 0x7E#8 := by decide

/-- The bytes of a body whose last byte is at hand: what the checks of O8 say of it. -/
def faults (bytes : List Byte) : Bool × Bool × Bool :=
  (((bytes.map (·.toNat)).sum + 12) % 256 != 0, crc8 (bytes.take 9) != bytes.getD 9 0,
    decide ((bytes.getD 4 0).toNat / 64 = 3 ∨ bytes.take 4 = [0, 0, 0, 0] ∨
      bytes.take 4 = [0xFF, 0xFF, 0xFF, 0xFF]))

theorem witness_ByteInBodyAndValidation :
    (inBody []).phase = .running ∧ ((inBody (List.replicate 10 0)).line 0).assembly = .body ∧
      ((inBody (List.replicate 10 0)).line 0).store.length + 1 < 12 ∧
      ((inBody ((frameOf telegramA).take 11)).line 0).store.length + 1 = 12 ∧
      faults (frameOf telegramA) = (false, false, false) ∧
      faults ((frameOf telegramA).take 11 ++ [0]) = (true, false, false) ∧
      faults (List.replicate 9 0 ++ [1, 0xF3, 0]) = (false, true, true) ∧
      faults (frameOf ([0, 0, 0, 0] ++ telegramA.drop 4)) = (false, false, true) ∧
      faults (frameOf ([0xFF, 0xFF, 0xFF, 0xFF] ++ telegramA.drop 4)) = (false, false, true) ∧
      faults (frameOf ((telegramA.take 4 ++ [0xD9]) ++ telegramA.drop 5)) = (false, false, true) := by decide

theorem witness_CopyJoinsOpensOrEvicts :
    (merging 12).MergeLaw ∧ entry 12 ∈ (merging 12).merge ∧ (entry 12).id = (copyOf 12).id ∧
      (∀ e ∈ (merging 12).merge, ¬ (e.id = (copyOf 13).id ∧ e.seq = (copyOf 13).seq)) ∧
      (merging 12).merge.length = 12 ∧ (merging 12).merge.head? = some (entry 1) ∧
      base.MergeLaw ∧ base.merge.length < 12 :=
  ⟨merging_law, by decide, by decide, by decide, by decide, by decide, ⟨by decide, .nil, nofun⟩, by decide⟩

theorem witness_GapAndWindowExpiries :
    (∀ cs : List Instr, (racing cs).phase = .running ∧ ((racing cs).line 0).gapTimer ≠ none ∧
      ((racing cs).line 0).gapRuns = 3 ∧ ((racing cs).line 0).assembly = .body ∧
      ((racing cs).line 0).store.length + 1 < 12 ∧ (racing cs).pending = cs) ∧ (base.line 0).gapTimer = none ∧
      base.phase = .running ∧ (base.line 0).assembly = .hunt ∧
      (base.setLine 0 { Line.atReset with assembly := .length }).phase = .running ∧
      ((base.setLine 0 { Line.atReset with assembly := .length }).line 0).assembly = .length ∧
      (merging 12).merge.head? = some (entry 1) ∧ (∀ e rest, base.merge = e :: rest → ¬ (e.id = 1 ∧ e.seq = 0)) :=
  ⟨fun _ => ⟨rfl, nofun, rfl, rfl, show 1 + 1 < 12 by decide, rfl⟩,
    by decide, by decide, by decide, by decide, by decide, by decide, nofun⟩

theorem witness_MergeBufferChangedByItsEventsOnly :
    ∃ t, exec (gap 0) (merging 12) = .next t ∧ (∀ i b v, gap 0 ≠ .receivedByte i b v) ∧
      (∀ id seq, gap 0 ≠ .windowExpiry id seq) ∧ ∀ a b, gap 0 ≠ .deviceReset a b :=
  ⟨_, rfl, nofun, nofun, nofun⟩

/-- Position 20 DETACHED. -/
def detached : State :=
  { base.setPos 20 { active 9 3 with state := .detached, deadline := none } with trailerPresent := false }

theorem witness_DroppedDeliveryChangesNothing :
    base.IdentityLaw ∧ base.LampLaw ∧ (base.pos 8).sensor = some idA ∧
      ((base.pos 8).sample.map fun sm => (sm.seq, sm.tick.saturated, (1199#24 - sm.tick.tick).toNat)) =
        some (9, false, 299) ∧
      (base.pos 20).sensor = some 9 ∧ (base.pos 20).state = .held ∧
      detached.IdentityLaw ∧ detached.LampLaw ∧ (detached.pos 20).state = .detached :=
  ⟨base_identity, base_lamp, by decide, by decide, by decide, by decide,
    identityLaw_of _ (by decide) (by decide) (by decide), ⟨by decide, by decide, by decide⟩, by decide⟩

theorem witness_ForeignDeliveryUpdatesList :
    (foreigners 8).ForeignLaw ∧ (∀ p, ((foreigners 8).pos p).sensor ≠ some 108) ∧
      (∃ e ∈ (foreigners 8).foreign, e.id = 108 ∧ e.hits = 255) ∧
      (∀ p, ((foreigners 8).pos p).sensor ≠ some 109) ∧ (∀ e ∈ (foreigners 8).foreign, e.id ≠ 109) ∧
      base.ForeignLaw ∧ (delivery 109 .trigger 0).content.kind = .trigger ∧ base.teach = none :=
  ⟨foreigners_law, by decide, by decide, by decide, by decide, ⟨by decide, .nil, nofun, nofun⟩, by decide⟩

/-- Position 20, of the SINGLE axle 5, WAITING. -/
def unpaired : State := base.setPos 20 (waiting 9)

theorem witness_AcceptedDeliveryResult :
    base.IdentityLaw ∧ missed.IdentityLaw ∧ unpaired.IdentityLaw ∧
      (base.pos 9).sensor = some 7 ∧ stale (base.pos 9) (delivery 7 .periodic 5) = false ∧
      (base.pos 9).state = .active ∧ (base.pos 11).sensor = some 8 ∧
      stale (base.pos 11) (delivery 8 .alert 5) = false ∧ (base.pos 11).state = .waiting ∧
      (missed.pos 9).sensor = some 7 ∧
      stale (missed.pos 9) (delivery 7 .trigger 5) = false ∧ (missed.pos 9).state = .missing ∧ missed.teach = none ∧
      (delivery 7 .periodic 5).content.pressure = some 1000 ∧ (delivery 8 .alert 5).content.kind = .alert ∧
      (base.axle (axleOf 9)).kind = .twin ∧ partner 9 = 8 ∧
      (unpaired.pos 20).sensor = some 9 ∧ stale (unpaired.pos 20) (delivery 9 .periodic 5) = false ∧
      (unpaired.pos 20).state = .waiting ∧ (unpaired.axle (axleOf 20)).kind ≠ .twin :=
  ⟨base_identity, identityLaw_of _ (by decide) (by decide) (by decide),
    identityLaw_of _ (by decide) (by decide) (by decide), by decide⟩

theorem default_lawful : Profile.default.Lawful := by constructor <;> decide

/-- Axle 2 lifted. -/
def liftedState : State := { base with context := { base.context with truckLifted := 4, load := 0 } }

theorem witness_ColdPressureIsFormula : (-50 : Int) ≤ -50 ∧ (-50 : Int) ≤ 20 := by decide

theorem witness_TargetAndThresholds :
    liftedState.lifted 2 = true ∧ liftedState.lifted 5 = false ∧ liftedState.context.load = 0 ∧
      base.lifted 2 = false ∧ base.context.load = 100 ∧ (100 : Int) ≤ 100 ∧ Profile.default.Lawful ∧
      Profile.default.uc < Profile.default.uw :=
  ⟨by decide, by decide, by decide, by decide, by decide, by decide, default_lawful, by decide⟩

theorem witness_LeakHistoryAndRate :
    6000 < keptSpan (keep 0) 6001 ∧ keptSpan (keep 0) 6000 ≤ 6000 ∧
      ([⟨1, keep 0⟩, ⟨2, keep 1⟩, ⟨3, keep 2⟩, ⟨4, keep 0⟩] : List LeakEntry).getLast? = some ⟨4, keep 0⟩ ∧
      199 = keptSpan (keep 0) 199 ∧ 199 < 200 ∧ 200 = keptSpan (keep 0) 200 ∧ 200 ≤ 200 := by decide

theorem witness_TwinDifferenceIsShared :
    slotOf 8 = 0 ∧ slotOf 10 = 2 ∧
      (base.pos 8).pc = some 766 ∧ (base.pos (partner 8)).pc = some 766 ∧ base.pairDiff 8 = some 0 := by decide

/-- LEAK live at position 8. -/
def leaking : State := base.setLive 8 (kindMask .leak)
/-- Position 8 with a leak rate: from 15 LEAK goes live, and from 7 it stays live (R113). -/
def leaky (rate : Nat) : State := base.setPos 8 { base.pos 8 with leakRate := some rate }
/-- The tipping profile on top. -/
def tipping : State := { base with stack := [{ index := 1, origin := .body }] }

theorem witness_ConditionTestsFollowHysteresis :
    hasKind tipping.activeProfile.enable .leak = false ∧ hasKind tipping.activeProfile.enable .underW = true ∧
      (∀ k, hasKind Profile.default.enable k = true) ∧
      Profile.default.Lawful ∧ hasKind (leaking.pos 8).live .leak = true ∧ hasKind (base.pos 8).live .leak = false ∧
      (base.pos 11).pc = none ∧ (base.pos 8).pc = some 766 ∧
      (base.pos 8).leakRate = none ∧ ((leaky 7).pos 8).leakRate = some 7 ∧
      (base.pos 11).sample.bind (·.content.temperature) = none ∧
      (base.pos 8).sample.bind (·.content.temperature) = some 65 ∧
      base.pairDiff 11 = none ∧ base.pairDiff 8 = some 0 ∧ (base.pos 8).sample.isSome = true :=
  ⟨by decide, by decide, fun k => by cases k <;> rfl, default_lawful, by decide⟩

theorem witness_TransitionLatchesAndReports :
    (base.pos 8).latched.get .a = 0 ∧ ((base.latchAll .sample [(8, .leak)]).pos 8).latched.get .a ≠ 0 ∧
      (base.pos 8).state = .active ∧ (base.pos 11).state ≠ .active ∧ (base.pos 20).state ≠ .active := by decide

theorem witness_FlashPhaseFollowsPattern :
    base.warn.level ≠ .flash ∧ flashing.warn.level = .flash ∧
      flashing.settings.flashPeriod ≤ (flashing.tick - flashing.warn.phaseStart).toNat ∧
      (let s := { flashing with tick := 999 }
       (s.tick - s.warn.phaseStart).toNat < s.settings.flashPeriod ∧
         s.settings.flashWidth ≤ (s.tick - s.warn.phaseStart).toNat) ∧
      (let s := { flashing with tick := 994 }
       (s.tick - s.warn.phaseStart).toNat < s.settings.flashPeriod ∧
         (s.tick - s.warn.phaseStart).toNat < s.settings.flashWidth) := by decide

/-- `base` at tick 1500, the deadline of position 8. -/
def late : State := { base with tick := 1500 }
/-- The same with MISSING not enabled in the active profile. -/
def lateDisabled : State := late.setProfile 0 { Profile.default with enable := 0x37F }

theorem witness_DeadlineExpiryMakesMissing :
    late.PositionLaw ∧ (late.pos 8).deadline = some late.tick ∧ (base.pos 8).deadline ≠ some base.tick ∧
      hasKind late.activeProfile.enable .missing = true ∧ lateDisabled.PositionLaw ∧
      (lateDisabled.pos 8).deadline = some lateDisabled.tick ∧
      hasKind lateDisabled.activeProfile.enable .missing = false :=
  ⟨⟨base_position.lawful, base_position.detached⟩, by decide, by decide, by decide,
    ⟨base_position.lawful, base_position.detached⟩, by decide⟩

theorem witness_InputChangeRunsDebounce :
    State.reset.phase = .starting ∧ base.phase = .running ∧ true = base.trailerPresent ∧
      false ≠ base.trailerPresent ∧ (false = true ↔ base.bodyState = .raised) ∧
      ¬ (true = true ↔ base.bodyState = .raised) := by decide

theorem witness_TrlExpiryCouplesOrDecouples :
    (let s := { teaching with trl := false, trlTimer := some 980 }
     s.trlTimer = some 980 ∧ 20 ≤ (s.tick - 980).toNat ∧ s.trl ≠ s.trailerPresent ∧ s.trl = false ∧
       s.teach = some session ∧ session.queue.filter inTruck ≠ [] ∧ (s.pos 20).sensor ≠ none ∧
       (s.pos 21).sensor = none) ∧
    (let s := { detached with trl := true, trlTimer := some 980 }
     s.trlTimer = some 980 ∧ s.trl ≠ s.trailerPresent ∧ s.trl = true ∧ (s.pos 20).state = .detached) ∧
    base.trlTimer = none ∧ (base.tick - 981).toNat < 20 ∧ base.trl = base.trailerPresent ∧
    [20].filter inTruck = [] ∧ base.teach = none := by decide

theorem witness_BodyExpiryPushesOrRemoves :
    (let s := { base with body := true, bodyTimer := some 995 }
     s.bodyTimer = some 995 ∧ 5 ≤ (s.tick - 995).toNat ∧ s.body = true ∧ s.bodyState = .lowered ∧
       s.settings.tipping = some 1) ∧
    (let s := { crowded with bodyState := .raised, bodyTimer := some 995 }
     s.bodyTimer = some 995 ∧ s.body = false ∧ s.bodyState = .raised ∧
       s.stack = [{ index := 0, origin := .reset }] ++ { index := 1, origin := .body } :: []) ∧
    (run (.push (req .b [3])) crowded).stack = [{ index := 0, origin := .reset }] ++
      { index := 1, origin := .body } :: [{ index := 3, origin := .port .b }] ∧
    tipping.stack = [] ++ { index := 1, origin := .body } :: [] ∧
    base.bodyTimer = none ∧ (base.tick - 996).toNat < 5 ∧ (base.body = true ↔ base.bodyState = .raised) ∧
    (∀ e ∈ base.stack, e.origin ≠ .body) ∧
    ({ base.settings with tipping := none } : Settings).tipping = none := by decide

theorem witness_SaturationMarksOldTicks :
    (base.pos 0).sample = none ∧ (base.pos 8).sample ≠ none ∧
      ({ tick := 5, saturated := true } : KeptTick).saturated = true ∧ (keep 5).saturated = false := by decide

theorem witness_RaisedFrameIsQueuedOrLost :
    (PortMode.busOff 0 ≠ .active) ∧ (portWith (List.replicate 15 (frameAt 2 false))).queue.length < 16 ∧
      (portWith (List.replicate 16 (frameAt 2 false))).queue.length = 16 ∧
      (frameAt 5 false).cyclic = true ∧ (frameAt 2 false).cyclic = false ∧
      (∀ g ∈ (portWith (frameAt 5 true :: List.replicate 15 (frameAt 2 false))).queue,
        g.cyclic = false ∨ g.sending = true) ∧
      (portWith (frameAt 5 true :: frameAt 5 false :: List.replicate 14 (frameAt 2 false))).queue =
        [frameAt 5 true] ++ frameAt 5 false :: List.replicate 14 (frameAt 2 false) := by decide

theorem witness_AnswerFramesQueuedInOrder :
    (base.port (req .a []).port).mode = .active ∧
      ((base.setPort .a (portWith (List.replicate 14 (frameAt 2 false)))).port .a).queue.length + 2 ≤ 16 := by decide

/-- Port A's period timer expires now, its next axle being 3. -/
def rotating : State := base.setPort .a { portWith (List.replicate 12 (frameAt 2 false)) with nextAxle := 3 }

theorem witness_CyclicReportTakesNextPresentAxle :
    rotating.phase = .running ∧ (rotating.port .a).mode = .active ∧
      (rotating.port .a).periodDue = some rotating.tick ∧ (rotating.port .a).queue.length ≤ 12 ∧
      rotating.axlePresent (axlePlus (rotating.port .a).nextAxle 2) = true ∧
      (∀ j : Nat, j < 2 → rotating.axlePresent (axlePlus (rotating.port .a).nextAxle j) = false) ∧
      (∀ a, ({ State.reset with phase := .running } : State).axlePresent a = false) := by decide

theorem witness_FrameOfferPicksLowestOldest :
    (rotating.port .a).mode = .active ∧ (∀ f ∈ (rotating.port .a).queue, f.sending = false) ∧
      (rotating.port .a).queue ≠ [] ∧ (base.port .a).queue = [] := by decide

/-- Port A offering the second of three frames, with an error count. -/
def offering (errors : Nat) : State :=
  base.setPort .a { portWith [frameAt 5 false, frameAt 2 true, frameAt 4 false] with errors := errors }

theorem witness_AttemptEndsAndBusOffReturns :
    ((offering 247).port .a).queue = [frameAt 5 false] ++ frameAt 2 true :: [frameAt 4 false] ∧
      (frameAt 2 true).sending = true ∧ (frameAt 5 false).sending = false ∧
      ((offering 247).port .a).errors + 8 ≤ 255 ∧ 255 < ((offering 248).port .a).errors + 8 ∧
      (∀ g ∈ (base.port .a).queue, g.sending = false) ∧ (base.port .a).mode = .active ∧
      base.phase = .running ∧
      ((base.setPort .a { PortCtl.atReset with mode := .busOff 990 }).port .a).mode = .busOff 990 ∧
      10 ≤ (base.tick - 990).toNat ∧ (base.tick - 991).toNat < 10 := by decide

theorem witness_RequestsJudgedAlike :
    (Instr.readForeign (req .a [8])).wellFormed = true ∧
      requestOf (.readForeign (req .a [8])) = some (0x05, req .a [8]) ∧
      ({ req .a [] with form := .remote } : Request).form ≠ .data29 ∧
      ({ req .a [] with target := 0x71 } : Request).target ≠ base.address ∧
      ({ req .a [] with target := 0x71 } : Request).target ≠ 0xFF#8 ∧
      State.reset.takes (req .a []) = true ∧ State.reset.phase = .starting ∧ (0x05 : Byte) ≠ 0x50#8 ∧
      requestOf (.vehicleState (req .a [])) = some (0x50, req .a []) ∧
      base.serves (req .a [8]) ∧ operandsReadable (.readForeign (req .a [8])) = false :=
  ⟨rfl, rfl, by decide, by decide, by decide, by decide, by decide, by decide, rfl, base_serves _ _, by decide⟩

theorem witness_EditWithoutGrantRefused :
    requestOf (.clearSection (req .b [1])) = some (0x34, req .b [1]) ∧ (0x34 : Byte) ∈ editCodes ∧
      (Instr.clearSection (req .b [1])).wellFormed = true ∧ edited.serves (req .b [1]) ∧
      edited.grant.state ≠ .held (req .b [1]).port ∧
      operandsReadable (.clearSection (req .b [1])) = true ∧ operandsReadable (.clearSection (req .b [2])) = false :=
  ⟨rfl, by decide, rfl, ⟨rfl, rfl⟩, by decide⟩

theorem witness_TableReadsAnswer :
    base.serves (req .a [31]) ∧ byteAt (req .a [31]) 0 = some 31 ∧
      byteAt (req .a [7, 3, 2, 4]) 0 = some 7 ∧ byteAt (req .a [7, 3, 2, 4]) 1 = some 3 ∧
      byteAt (req .a [7, 3, 2, 4]) 2 = some 2 ∧ byteAt (req .a [7, 3, 2, 4]) 3 = some 4 ∧
      byteAt (req .a [5]) 0 = some (5 : ProfileNo).val :=
  ⟨base_serves _ _, by decide⟩

theorem witness_StatusReadsAnswer :
    (foreigners 8).serves (req .a [7]) ∧ byteAt (req .a [7]) 0 = some 7 ∧
      (foreigners 8).foreign[7]?.isSome = true ∧ base.foreign.length ≤ 7 ∧
      byteAt (req .a [3, 1]) 0 = some (3 : Fin 4).val ∧ byteAt (req .a [3, 1]) 1 = some 1 ∧
      (0x99 : Byte) ∉ requestCodes :=
  ⟨⟨rfl, rfl⟩, by decide⟩

theorem witness_AckEmptiesOwnSide :
    base.serves (req .b [255]) ∧ byteAt (req .b [255]) 0 = some 0xFF ∧ byteAt (req .b [31]) 0 = some (31 : Pos).val :=
  ⟨base_serves _ _, by decide⟩

/-- Position 20 HELD with no time remaining, and position 9 HELD out of MISSING. -/
def holding : State :=
  (base.setPos 20 (held 9 0)).setPos 9 { held 7 0 with beforeHold := some .missing, remaining := none }

theorem holding_position : holding.PositionLaw where
  lawful p := by
    have h : ∀ p, base.pos p = holding.pos p ∨ holding.pos p = held 9 0 ∨
        holding.pos p = { held 7 0 with beforeHold := some .missing, remaining := none } := by decide
    rcases h p with h | h | h
    · rw [← h]; exact base_position.lawful p
    · rw [h]; exact held_lawful 9 0
    · rw [h]
      exact ⟨nofun, fun _ => rfl, by simp [held], by simp [held], .inr (.inr (.inr rfl)), by simp,
        fun _ _ => rfl, nofun, fun _ => hasKind_zero _, by simp [held]⟩
  detached := by decide

theorem witness_HoldThenUnhold :
    base.PositionLaw ∧ byteAt (req .a [8]) 0 = some (8 : Pos).val ∧ base.serves (req .a [8]) ∧
      (base.pos 0).state = .unassigned ∧ (base.pos 20).state = .held ∧ (base.pos 8).state = .active ∧
      (base.pos 11).state = .waiting ∧ (base.pos 20).beforeHold = some .active ∧ (base.pos 20).remaining = some 40 ∧
      BitVec.ofNat 24 40 ≠ 0 ∧ holding.PositionLaw ∧ (holding.pos 20).remaining = some 0 ∧
      (holding.pos 9).state = .held ∧ (holding.pos 9).beforeHold = some .missing :=
  ⟨base_position, by decide, base_serves _ _, by decide, by decide, by decide, by decide, by decide, by decide,
    by decide, holding_position, by decide⟩

theorem witness_PushAndPopByOrigin :
    crowded.serves (req .b [5]) ∧ byteAt (req .b [5]) 0 = some (5 : ProfileNo).val ∧
      (∀ e ∈ crowded.stack, e.origin ≠ .port .b) ∧ crowded.stack.length < 3 ∧
      (run (.push (req .b [5])) crowded).stack = crowded.stack ++ { index := 5, origin := .port .b } :: [] ∧
      (run (.push (req .a [2])) (run (.push (req .b [5])) crowded)).stack = [{ index := 1, origin := .body }] ++
        { index := 5, origin := .port .b } :: [{ index := 2, origin := .port .a }] :=
  ⟨⟨rfl, rfl⟩, by decide⟩

theorem base_grant : base.GrantLaw where
  once := by decide
  holder := nofun
  free _ := rfl
  marks _ := rfl
  timer := by simp [show base.grant.idleTimer = none from rfl, show base.grant.state = .free from rfl]
  owner := nofun
  saving := by simp [show base.grant.state = .free from rfl, show base.grant.toSave = [] from rfl]
  starting := nofun

theorem edited_grant : edited.GrantLaw where
  once := by decide
  holder p _ := List.not_mem_nil
  free := nofun
  marks h := absurd rfl (h .a)
  timer := ⟨fun _ => ⟨⟨.a, rfl⟩, rfl⟩, fun _ => rfl⟩
  owner := nofun
  saving := by simp [show edited.grant.state = .held .a from rfl, show edited.grant.toSave = [] from rfl]
  starting := nofun

theorem saving_grant : saving.GrantLaw where
  once := by decide
  holder := nofun
  free := nofun
  marks _ := rfl
  timer := by simp [show saving.grant.idleTimer = none from rfl, show saving.grant.state = .saving from rfl]
  owner := nofun
  saving := ⟨fun _ => by decide, fun _ => rfl⟩
  starting := nofun

theorem witness_GrantRequestAndRelease :
    base.serves (req .a []) ∧ base.GrantLaw ∧ base.grant.state = .free ∧ edited.GrantLaw ∧
      edited.grant.state = .held (req .a []).port ∧ edited.grant.state ≠ .held (req .b []).port ∧
      saving.serves (req .b []) ∧ saving.GrantLaw ∧ (req .b []).port ∈ saving.grant.waiting ∧
      (req .b []).port ∉ edited.grant.waiting :=
  ⟨base_serves _ _, base_grant, by decide, edited_grant, by decide, by decide, ⟨rfl, rfl⟩, saving_grant, by decide⟩

/-- Port A's tenure with section L changed and the highest revision. -/
def changed : State := { edited.mark .l with grant := { (edited.mark .l).grant with revision := 0xFFFF } }

theorem witness_TenureEndSavesChanges :
    edited.grant.state = .held .a ∧ edited.grant.marks = .all false ∧ edited.grant.waiting = [] ∧
      ({ edited with grant := { edited.grant with waiting := [.b] } } : State).grant.waiting = .b :: [] ∧
      changed.grant.state = .held .a ∧ changed.grant.marks ≠ .all false ∧ changed.grant.revision = 0xFFFF#16 ∧
      edited.grant.idleTimer = some 700 ∧ 300 ≤ (edited.tick - 700).toNat ∧ (edited.tick - 701).toNat < 300 ∧
      base.grant.idleTimer = none := by decide

/-- What VEHICLE STATE 101 %, truck mask of axles 0 and 2, ambient 59 from port A leaves (R60). -/
theorem witness_VehicleStateUpdatesContext :
    base.serves (req .a [101, 5, 1, 59]) ∧
      base.contextAfter (req .a [101, 5, 1, 59]) =
        { load := 100, truckLifted := 4, trailerLifted := 0, ambient := 60 } ∧
      byteAt (req .a [101, 5, 1, 59]) 0 = some 101 ∧ (req .a [101, 5, 1, 59]).port = base.settings.loadSource :=
  ⟨base_serves _ _, by decide⟩

theorem witness_WritePositionResult :
    edited.servesHolder (req .a [10, 0, 0, 0, 0, 5]) ∧
      byteAt (req .a [10, 0, 0, 0, 0, 5]) 0 = some (10 : Pos).val ∧
      byteAt (req .a [10, 0, 0, 0, 0, 5]) 1 = some 0 ∧ idAt (req .a [10, 0, 0, 0, 0, 5]) 2 = some 5 ∧
      byteAt (req .a [8, 1]) 1 = some 1 ∧ edited.posExists 10 = true ∧
      (∀ q, q ≠ 10 → (edited.pos q).sensor ≠ some 5) ∧ (edited.pos 10).sensor ≠ some 5 ∧
      (edited.pos 8).sensor = some idA ∧ edited.posExists 0 = false ∧
      inTruck 10 = true ∧ (run (.lockTruck (req .a [])) edited).grant.truckLock = true ∧ inTruck 20 = false ∧
      edited.grant.truckLock = false :=
  ⟨edited_servesHolder _, by decide⟩

theorem witness_AxleWritesReachPositions :
    edited.servesHolder (req .a [2, 7, 1, 0, 99, 4, 177]) ∧
      byteAt (req .a [2, 7, 1, 0, 99, 4, 177]) 0 = some (2 : AxleNo).val ∧
      byteAt (req .a [2, 7, 1, 0, 99, 4, 177]) 1 = some 7 ∧ Nat.testBit 7 0 = true ∧
      byteAt (req .a [2, 7, 3]) 2 = some 3 ∧ Nat.testBit 8 0 = false ∧ byteAt (req .a [2, 1]) 2 = none ∧
      byteAt (req .a [2, 7, 1, 0, 99, 4, 177]) 2 = some 1 ∧ wordAt (req .a [2, 7, 1, 0, 99, 4, 177]) 3 = some 99 ∧
      wordAt (req .a [2, 7, 1, 0, 99, 4, 177]) 5 = some 1201 ∧ Nat.testBit 6 0 = false ∧
      wordAt (req .a [2, 6, 0, 2, 188, 3, 82]) 3 = some 700 ∧ wordAt (req .a [2, 6, 0, 2, 188]) 5 = none ∧
      AxleKind.single.code = 1 ∧ (edited.axle 2).kind = .twin ∧ edited.grant.truckLock = false ∧ truckAxle 2 = true ∧
      edited.posExists 11 = true ∧ slotExists .single (slotOf 11) = true ∧ slotExists .single (slotOf 9) = false ∧
      (edited.pos 9).sensor.isSome = true ∧ (edited.pos 8).state ≠ .unassigned ∧ truckAxle 5 = false ∧
      byteAt (req .a [0]) 0 = some (if true = true then 0 else 1) ∧
      byteAt (req .a [1]) 0 = some (if false = true then 0 else 1) :=
  ⟨edited_servesHolder _, by decide⟩

theorem witness_WriteProfileClampsAndAdjusts :
    edited.servesHolder (req .a [0, 2, 0, 0, 3, 12]) ∧
      byteAt (req .a [0, 2, 0, 0, 3, 12]) 0 = some (0 : ProfileNo).val ∧
      byteAt (req .a [0, 2, 0, 0, 3, 12]) 1 = some 2 ∧ wordAt (req .a [0, 2, 0, 0, 3, 12]) 4 = some 780 ∧
      byteAt (req .a [5, 0x4C, 0, 0, 0, 0xFF, 90]) 1 = some 0x4C ∧ 0x4C / 64 = 1 ∧ Nat.testBit 0x4C 2 = true ∧
      byteAt (req .a [5, 0x4C, 0, 0, 0, 0xFF, 90]) 5 = some 0xFF ∧
      byteAt (req .a [5, 0x81, 1, 0x2C]) 1 = some 0x81 ∧ 0x81 / 64 = 2 ∧
      wordAt (req .a [5, 0x81, 1, 0x2C]) 2 = some 300 ∧
      byteAt (req .a [5, 0x80]) 1 = some 0x80 ∧ Nat.testBit 0x80 0 = false ∧ edited.activeIndex = 0 :=
  ⟨edited_servesHolder _, by decide⟩

theorem witness_WriteSettingsResult :
    edited.servesHolder (req .a [0x18, 0, 0, 0, 1, 51]) ∧ byteAt (req .a [0x18, 0, 0, 0, 1, 51]) 0 = some 0x18 ∧
      byteAt (req .a [0x18, 0, 0, 0, 1, 51]) 4 = some 1 ∧ byteAt (req .a [0x18, 0, 0, 0, 1, 51]) 5 = some 51 ∧
      byteAt (req .a [0x04, 0, 0, 4]) 0 = some 0x04 ∧ byteAt (req .a [0x04, 0, 0, 4]) 3 = some 4 ∧
      byteAt (req .a [0x98, 0, 0, 0, 1, 2]) 0 = some 0x98 ∧ byteAt (req .a [0x98, 0, 0, 0, 1, 2]) 5 = some 2 ∧
      byteAt (req .a [0x01, 0xF6]) 1 = some 246 ∧ edited.settings.Lawful :=
  ⟨edited_servesHolder _, by decide, by decide, by decide, by decide, by decide, by decide, by decide, by decide,
    ⟨by decide, by decide, by decide, by decide, by decide⟩⟩

theorem witness_LockAndTeachRequests :
    edited.servesHolder (req .a [2, 10, 20]) ∧ teaching.servesHolder (req .a [1, 11]) ∧
      ([10, 20] : List Pos).length ≤ 6 ∧
      byteAt (req .a [2, 10, 20]) 0 = some ([10, 20] : List Pos).length ∧
      byteAt (req .a [2, 10, 20]) 1 = some (10 : Pos).val ∧ byteAt (req .a [2, 10, 20]) 2 = some (20 : Pos).val ∧
      ([10, 20] : List Pos).Nodup ∧ edited.posExists 10 = true ∧ edited.posExists 20 = true ∧
      edited.grant.truckLock = false ∧ edited.trailerPresent = true ∧ edited.teach = none ∧
      teaching.teach = some session ∧ (11 : Pos) ∉ session.queue ∧
      (11 : Pos) ∉ session.taught ∧ byteAt (req .a [2, 10, 20]) 2 ≠ none ∧ byteAt (req .a [0]) 0 = some 0 ∧
      byteAt (req .a [1, 11]) 0 = some 1 ∧ (byteAt (req .a [1, 11]) 1).isSome = true ∧ listOperand 6 (req .a [1, 32]) = some [32] ∧
      listOperand 7 (req .a [1, 10]) = some [10] ∧ (10 : Pos) ∈ session.queue ∧
      listOperand 6 (req .a [0]) = some [] ∧ (run (.lockTruck (req .a [])) edited).grant.truckLock = true :=
  ⟨edited_servesHolder _, ⟨⟨rfl, rfl⟩, rfl⟩, by decide⟩

theorem witness_SessionEndsByTimeoutOrAbort :
    base.teach = none ∧ teaching.teach = some session ∧ session.stepDeadline ≠ teaching.tick ∧
      session.stepDeadline = ({ teaching with tick := 2000 } : State).tick ∧ teaching.servesHolder (req .a []) ∧
      edited.servesHolder (req .a []) ∧ edited.teach = none :=
  ⟨by decide, by decide, by decide, by decide, ⟨⟨rfl, rfl⟩, rfl⟩, edited_servesHolder _, by decide⟩

theorem teaching_teach : teaching.TeachLaw where
  session t ht := by
    obtain rfl : session = t := by simpa [teaching] using ht
    exact ⟨by decide, by decide, by decide, by decide, by decide, by decide, by decide⟩
  starting := nofun

theorem teaching_identity : teaching.IdentityLaw := identityLaw_of _ (by decide) (by decide) (by decide)

theorem witness_TeachTriggerCases :
    teaching.IdentityLaw ∧ teaching.PositionLaw ∧ teaching.TeachLaw ∧ teaching.teach = some session ∧
      session.queue = 10 :: [20] ∧ (delivery idA .trigger 5).content.kind = .trigger ∧
      (teaching.pos 8).sensor = some idA ∧ stale (teaching.pos 8) (delivery idA .trigger 5) = false ∧
      (8 : Pos) ∈ session.taught ∧ (teaching.pos 11).sensor = some 8 ∧ (11 : Pos) ∉ session.taught ∧
      stale (teaching.pos 11) (delivery 8 .trigger 5) = false ∧ (∀ q, (teaching.pos q).sensor ≠ some 77) ∧
      teaching.grant.truckLock = false ∧ inTruck 10 = true ∧
      (({ teaching with teach := some { session with queue := [11] } } : State).pos 11).sensor = some 8 ∧
      (({ teaching with teach := some { session with queue := [20] } } : State).pos 20).state = .held ∧
      (run (.lockTruck (req .a [])) teaching).grant.truckLock = true ∧ inTruck 11 = true :=
  ⟨teaching_identity, ⟨base_position.lawful, base_position.detached⟩, teaching_teach, by decide⟩

/-! The laws hold in states that are not the reset state, and a step from there answers a next state. -/

theorem base_lines : base.LinesLaw := fun i => by
  have h : ∀ i, base.line i = Line.atReset := by decide
  rw [h i]
  exact ⟨⟨by decide, fun _ => rfl, by decide⟩, nofun⟩

theorem witness_StepKeepsLinesAndMergeLaws :
    (merging 12).LinesLaw ∧ (merging 12).MergeLaw ∧
      ∃ t, step { merging 12 with pending := [.windowExpiry 1 0] } = .next t :=
  ⟨base_lines, merging_law, _, rfl⟩

theorem witness_StepKeepsForeignLaw :
    (foreigners 8).ForeignLaw ∧ ∃ t, step { foreigners 8 with pending := [.keptTickSaturation] } = .next t :=
  ⟨foreigners_law, _, rfl⟩

theorem witness_StepKeepsIdentityLaw :
    teaching.MergeLaw ∧ teaching.TeachLaw ∧ teaching.IdentityLaw ∧
      ∃ t, step { teaching with pending := [.windowExpiry 8 0] } = .next t :=
  ⟨⟨by decide, .nil, nofun⟩, teaching_teach, teaching_identity, _, rfl⟩

theorem witness_StepKeepsPositionLaw :
    late.PositionLaw ∧ ∃ t, step { late with pending := [.deadlineExpiry 8] } = .next t :=
  ⟨⟨base_position.lawful, base_position.detached⟩, _, rfl⟩

/-- LEAK latched at position 8 on both sides, and counted by the lamp. -/
def latched : State := (base.latchAll .sample [(8, .leak)]).recomputeWarn

theorem latched_capture : latched.CaptureLaw := by
  intro p port
  have h : ∀ p, (((latched.pos p).capture.a.isSome = true ↔ (latched.pos p).latched.a ≠ 0) ∧
      ((latched.pos p).capture.b.isSome = true ↔ (latched.pos p).latched.b ≠ 0)) := by decide
  cases port
  · exact (h p).1
  · exact (h p).2

theorem witness_StepKeepsCaptureLaw :
    latched.CaptureLaw ∧ (latched.pos 8).latched.a ≠ 0 ∧
      ∃ t, step { latched with pending := [.ack (req .a [255])] } = .next t :=
  ⟨latched_capture, by decide, _, rfl⟩

theorem witness_StepKeepsLampLaw :
    latched.LampLaw ∧ latched.warn.level = .flash ∧
      (∃ t, step { latched with pending := [.flashPhase] } = .next t) ∧
      (run (.vehicleState (req .a [50])) (leaky 15)).warn.level = .flash ∧ (leaky 15).warn.level = .off ∧
      (run (.deadlineExpiry 8) late).warn.level = .steady ∧ late.warn.level = .off ∧
      (run (.ack (req .a [255])) latched).warn.level = .off ∧
      (run (.hold (req .a [8])) { (base.setLive 8 (kindMask .leak)) with warn := latched.warn }).warn.level = .off :=
  ⟨⟨by decide, by decide, by decide⟩, by decide, ⟨_, rfl⟩, by decide⟩

theorem base_range : base.RangeLaw where
  axles a := by
    have h : ∀ a, (100 ≤ (base.axle a).unladen ∧ (base.axle a).unladen ≤ 1200) ∧
        100 ≤ (base.axle a).laden ∧ (base.axle a).laden ≤ 1200 := by decide
    exact ⟨(h a).1, (h a).2⟩
  profiles i := by
    have h : ∀ i, base.profile i = Profile.default ∨ base.profile i = Profile.tipping := by decide
    rcases h i with h | h <;> rw [h]
    · exact default_lawful
    · constructor <;> decide
  settings := by constructor <;> decide
  context := by constructor <;> decide

theorem witness_StepKeepsStackAndRangeLaws :
    crowded.StackLaw ∧ liftedState.LiftLaw ∧ base.RangeLaw ∧ base.StackLaw ∧ base.LiftLaw ∧
      ∃ t, step { base with pending := [.push (req .a [5])] } = .next t :=
  ⟨⟨by decide, by decide⟩, ⟨by decide, nofun⟩, base_range, ⟨by decide, by decide⟩, ⟨by decide, nofun⟩, _, rfl⟩

theorem teaching_grant : teaching.GrantLaw where
  once := by decide
  holder p _ := List.not_mem_nil
  free := nofun
  marks h := absurd rfl (h .a)
  timer := ⟨nofun, fun h => nomatch h.2⟩
  owner t ht := by
    obtain rfl : session = t := by simpa [teaching] using ht
    rfl
  saving := by simp [show teaching.grant.state = .held .a from rfl, show teaching.grant.toSave = [] from rfl]
  starting := nofun

theorem teaching_ports : teaching.PortsLaw := fun port => by
  cases port <;> constructor <;> decide

theorem witness_StepKeepsSessionGrantAndPortLaws :
    teaching.TeachLaw ∧ teaching.GrantLaw ∧ teaching.PortsLaw ∧
      ∃ t, step { teaching with pending := [.teachAbort (req .a [])] } = .next t :=
  ⟨teaching_teach, teaching_grant, teaching_ports, _, rfl⟩

theorem witness_TruckLockShieldsTruck :
    (run (.lockTruck (req .a [])) edited).grant.truckLock = true ∧
      (run (.lockTruck (req .a [])) edited).phase = .running ∧
      (∃ t, exec (.clearSection (req .a [0])) (run (.lockTruck (req .a [])) edited) = .next t) ∧
      ∀ a b, Instr.clearSection (req .a [0]) ≠ .deviceReset a b :=
  ⟨by decide, by decide, ⟨_, rfl⟩, nofun⟩

/-- The walk of `teaching` with a trigger of the sensor of position 11 in the Merge Buffer. -/
def triggered : State :=
  { teaching with merge := [{ entry 8 with content := { contentA with kind := .trigger } }] }

theorem witness_StoredValuesChangeByHolderOnly :
    triggered.GrantLaw ∧ triggered.phase = .running ∧
      ((run (.windowExpiry 8 0) triggered).pos 10).sensor ≠ (triggered.pos 10).sensor ∧
      changed.phase = .running ∧ (∃ t, exec (.grantRelease (req .a [])) changed = .next t) ∧
      (∀ a b, Instr.grantRelease (req .a []) ≠ .deviceReset a b) ∧
      (run (.grantRelease (req .a [])) changed).grant.revision ≠ changed.grant.revision :=
  ⟨{ teaching_grant with }, by decide, by decide, by decide, ⟨_, rfl⟩, nofun, by decide⟩

theorem witness_SavedSectionsLoadBack :
    base.RangeLaw ∧ base.IdentityLaw ∧ (erasedSection .t).marker ≠ 0xA5#8 ∧
      crc16 (sealed [1]).image ≠ ({ sealed [1] with crc := 0 } : StoreSection).crc ∧
      2 < (((List.replicate 100 0#8).set 5 3).getD (5 * 1) 0).toNat ∧
      200 < (((List.replicate 104 0#8).set 89 201).getD (75 + 14) 0).toNat :=
  ⟨base_range, base_identity, by decide, by decide, by decide, by decide⟩

end Sys2Proof.Machine.Tests
end

section
/-! PROOF. The scope of the part: what one step does (the queue of commands, the passing of time), and the
largest span of a kept tick (R1). -/

namespace Sys2Proof.Machine

/-! ### One step: the front command, or the passing of time (log 1) -/

theorem step_of_pending_cons (c : Instr) (rest : List Instr) (s : State) :
    step { s with pending := c :: rest } = exec c { s with pending := rest } := rfl

theorem step_of_pending_nil {s : State} (h : s.pending = []) : step s = .next s.idle := by
  simp only [step, h]

theorem State.idle_of_noneDue {s : State} (h : s.dueEvents = []) : s.idle = { s with tick := s.tick + 1 } := by
  simp only [State.idle, h, List.isEmpty_nil, if_true]

theorem State.idle_of_due {s : State} (h : s.dueEvents ≠ []) :
    s.idle = { s with pending := s.pending ++ s.dueEvents } :=
  if_neg (by simpa using h)

/-- Settles O1, from one equation for each way a step can go. -/
theorem stepRunsFrontCommandOrIdles : Obligations.StepRunsFrontCommandOrIdles := by
  refine ⟨step_of_pending_cons, fun s hempty hnone => ?_, fun s hempty hdue => ?_⟩
  · rw [step_of_pending_nil hempty, State.idle_of_noneDue hnone]
  · rw [step_of_pending_nil hempty, State.idle_of_due hdue, hempty, List.nil_append]

/-! ### Spans and the largest span (R1) -/

theorem span_eq_mod (earlier later : Tick) :
    span earlier later = (later.toNat + 2 ^ 24 - earlier.toNat) % 2 ^ 24 := by
  have hlt : earlier.toNat < 2 ^ 24 := earlier.isLt
  rw [span, BitVec.toNat_sub]
  congr 1
  omega

theorem keptSpan_of_saturated {k : KeptTick} (h : k.saturated = true) (later : Tick) :
    keptSpan k later = Config.spanMax := by
  simp only [keptSpan, h, if_true]

theorem keptSpan_of_unsaturated {k : KeptTick} (h : k.saturated = false) (later : Tick) :
    keptSpan k later = min Config.spanMax (span k.tick later) := by
  rw [keptSpan, h, min_comm]
  rfl

/-- The mark is set by the present span or stays as it was; the tick itself never changes. -/
theorem saturate_eq (now : Tick) (k : KeptTick) :
    saturate now k =
      { k with saturated := k.saturated || decide (Config.spanMax ≤ span k.tick now) } := by
  obtain ⟨tick, saturated⟩ := k
  cases saturated with
  | true => rfl
  | false =>
    simp only [saturate, saturates, Bool.not_false, Bool.true_and, Bool.false_or]
    cases decide (Config.spanMax ≤ span tick now) with
    | true => rfl
    | false => rfl

/-! ### KEPT_TICK_SATURATION (R1, log 22) -/

/-- The state in which KEPT_TICK_SATURATION leaves the part. -/
def State.saturated (s : State) : State :=
  { s.mapPos (fun _ x => x.saturate s.tick) with
    foreign := s.foreign.map fun e => { e with tick := saturate s.tick e.tick } }

theorem exec_keptTickSaturation (s : State) : exec .keptTickSaturation s = .next s.saturated := rfl

theorem State.saturated_frame (s : State) :
    s.saturated = { s with positions := s.saturated.positions, foreign := s.saturated.foreign } := by
  simp only [State.saturated, State.mapPos]

@[simp] theorem State.pos_saturated (s : State) (p : Pos) :
    s.saturated.pos p = (s.pos p).saturate s.tick :=
  calc s.saturated.pos p
    _ = (s.mapPos fun _ x => x.saturate s.tick).pos p := by simp only [State.saturated, State.pos]
    _ = (s.pos p).saturate s.tick := s.pos_mapPos _ p

theorem Position.saturate_sample (now : Tick) (x : Position) :
    (x.saturate now).sample = x.sample.map fun sm => { sm with tick := Machine.saturate now sm.tick } := rfl

theorem Position.saturate_leakHistory (now : Tick) (x : Position) :
    (x.saturate now).leakHistory =
      x.leakHistory.map fun e => { e with tick := Machine.saturate now e.tick } := rfl

/-- Settles O27: the command by the fields it replaces, each kept tick by `saturate_eq`, and the two
spans by their equations. -/
theorem saturationMarksOldTicks : Obligations.SaturationMarksOldTicks := by
  refine ⟨fun s => ⟨s.saturated, exec_keptTickSaturation s, s.saturated_frame, fun p => ?frame,
      fun p => ⟨fun hnone => ?noSample, fun sm hsome => ?sample⟩, fun p => ?history, ?foreign⟩,
    fun k later hmarked => keptSpan_of_saturated hmarked later, fun k later hunmarked => ?span⟩
  case frame => rw [State.pos_saturated]; rfl
  case noSample => rw [State.pos_saturated, Position.saturate_sample, hnone]; rfl
  case sample =>
    rw [State.pos_saturated, Position.saturate_sample, hsome, Option.map_some, saturate_eq]
    rfl
  case history =>
    simp only [State.pos_saturated, Position.saturate_leakHistory, saturate_eq]
    rfl
  case foreign =>
    simp only [State.saturated, saturate_eq]
    rfl
  case span => rw [keptSpan_of_unsaturated hunmarked, span_eq_mod]; rfl

end Sys2Proof.Machine
end

section
/-! PROOF. Receiver lines and sensor telegrams: what every command leaves of the lines and the Merge Buffer, what a
byte, a complete frame, a copy and an expiry do, and the statements O50, O2, O8, O3, O4, O7, O9, O11, O36. -/

namespace Sys2Proof.Machine

/-! ### The reception side of the state -/

/-- The receiver lines and the Merge Buffer with the queue of commands and the phase: what all commands leave alone
but those that `movesReception` names. -/
structure Reception where
  pending : List Instr
  phase : Phase
  lines : Vector Line 4
  merge : List MergeEntry

def State.reception (s : State) : Reception :=
  { pending := s.pending, phase := s.phase, lines := s.lines, merge := s.merge }

theorem State.reception_eq_iff {s t : State} : t.reception = s.reception ↔
    t.pending = s.pending ∧ t.phase = s.phase ∧ t.lines = s.lines ∧ t.merge = s.merge := by
  simp only [State.reception, Reception.mk.injEq]

/-! One lemma for each shared operation. -/

@[simp] theorem State.reception_mapPos (s : State) (f : Pos → Position → Position) :
    (s.mapPos f).reception = s.reception := by simp only [State.mapPos, State.reception]
@[simp] theorem State.reception_setPort (s : State) (p : Port) (c : PortCtl) :
    (s.setPort p c).reception = s.reception := rfl
@[simp] theorem State.reception_mark (s : State) (n : SectionName) :
    (s.mark n).reception = s.reception := rfl
@[simp] theorem State.reception_notice (s : State) (code : Byte) (data : List Byte) :
    (s.notice code data).reception = s.reception := rfl
@[simp] theorem State.reception_answer (s : State) (r : Request) (code : Byte) (frames : List (List Byte)) :
    (s.answer r code frames).reception = s.reception := by
  rw [State.answer_eq]; simp only [State.reception]
@[simp] theorem State.reception_reply (s : State) (r : Request) (code : Byte) (o : Reply) :
    (s.reply r code o).reception = s.reception := s.reception_answer r code _
@[simp] theorem State.reception_refuse (s : State) (r : Request) (code : Byte) (o : Reply) :
    (s.refuse r code o).reception = s.reception := by
  obtain ⟨frames, h⟩ := s.refuse_is_answer r code o
  rw [h, State.reception_answer]
@[simp] theorem State.reception_recomputeWarn (s : State) : s.recomputeWarn.reception = s.reception := by
  rw [State.recomputeWarn_eq]; simp only [State.reception]
@[simp] theorem State.reception_refreshIdle (s : State) : s.refreshIdle.reception = s.reception := by
  rw [State.refreshIdle_eq]; simp only [State.reception]
@[simp] theorem State.reception_reevaluate (s : State) : s.reevaluate.reception = s.reception := by
  rw [State.reevaluate_eq]; simp only [State.reception]
@[simp] theorem State.reception_fallMissing (s : State) (p : Pos) : (s.fallMissing p).reception = s.reception := by
  rw [State.fallMissing_eq]; simp only [State.reception]
@[simp] theorem State.reception_takeHold (s : State) (p : Pos) : (s.takeHold p).reception = s.reception := by
  rw [State.takeHold_eq]; simp only [State.reception]
@[simp] theorem State.reception_restoreHold (s : State) (p : Pos) :
    (s.restoreHold p).reception = s.reception := by
  rw [State.restoreHold_eq]; simp only [State.reception]
@[simp] theorem State.reception_recordReset (s : State) (p : Pos) (id : Option SensorId) :
    (s.recordReset p id).reception = s.reception := by
  rw [State.recordReset_eq]; simp only [State.reception]
@[simp] theorem State.reception_decouple (s : State) : s.decouple.reception = s.reception := by
  rw [State.decouple_eq]; simp only [State.reception]
@[simp] theorem State.reception_recouple (s : State) : s.recouple.reception = s.reception := by
  rw [State.recouple_eq]; simp only [State.reception]
@[simp] theorem State.reception_endTeach (s : State) (o : TeachOutcome) :
    (s.endTeach o).reception = s.reception := by
  rw [State.endTeach_eq]; simp only [State.reception]
@[simp] theorem State.reception_removeFromTeach (s : State) (gone : Pos → Bool) (also : Bool) (o : TeachOutcome) :
    (s.removeFromTeach gone also o).reception = s.reception := by
  rw [State.removeFromTeach_eq]; simp only [State.reception]
@[simp] theorem State.reception_deliver (s : State) (d : Delivery) : (s.deliver d).reception = s.reception := by
  rw [State.deliver_eq]; simp only [State.reception]
@[simp] theorem State.reception_changeStack (s : State) (c : StackChange) :
    (s.changeStack c).reception = s.reception := by
  rw [State.changeStack_eq]; simp only [State.reception]
@[simp] theorem State.reception_handover (s : State) : s.handover.reception = s.reception := by
  rw [State.handover_eq]; simp only [State.reception]
@[simp] theorem State.reception_endTenure (s : State) (p : Port) : (s.endTenure p).reception = s.reception := by
  rw [State.endTenure_eq]; simp only [State.reception]
@[simp] theorem State.reception_portReset (s : State) (p : Port) : (s.portReset p).reception = s.reception := by
  rw [State.portReset_eq]; simp only [State.reception]
@[simp] theorem State.reception_reportAxle (s : State) (p : Port) (a : AxleNo) :
    (s.reportAxle p a).reception = s.reception := by
  rw [State.reportAxle_eq]; simp only [State.reception]
@[simp] theorem State.reception_resetAll (s : State) (ps : List Pos) : (s.resetAll ps).reception = s.reception := by
  rw [State.resetAll_eq]; simp only [State.reception]
@[simp] theorem State.reception_changeKind (s : State) (a : AxleNo) (k : AxleKind) :
    (s.changeKind a k).reception = s.reception := by
  rw [State.changeKind_eq]; simp only [State.reception]
@[simp] theorem State.reception_beginTenure (s : State) (p : Port) (waiting : List Port) :
    (s.beginTenure p waiting).reception = s.reception := rfl
@[simp] theorem State.reception_stopWaiting (s : State) (p : Port) : (s.stopWaiting p).reception = s.reception :=
  rfl
@[simp] theorem State.reception_joinWaiting (s : State) (p : Port) : (s.joinWaiting p).reception = s.reception := by
  unfold State.joinWaiting; split <;> rfl
@[simp] theorem State.reception_restartFlash (s : State) : s.restartFlash.reception = s.reception := by
  unfold State.restartFlash; split <;> rfl
@[simp] theorem State.reception_bodyRises (s : State) : s.bodyRises.reception = s.reception := by
  unfold State.bodyRises; split
  · rfl
  · exact s.reception_changeStack _
@[simp] theorem State.reception_bodyFalls (s : State) : s.bodyFalls.reception = s.reception := by
  unfold State.bodyFalls; split
  · rfl
  · exact s.reception_changeStack _

/-- A branch of an operation, each of whose ways keeps the reception side. -/
theorem reception_ite {p : Prop} [Decidable p] {s t u : State} (ht : t.reception = s.reception)
    (hu : u.reception = s.reception) : (if p then t else u).reception = s.reception := by
  split
  · exact ht
  · exact hu

@[simp] theorem State.reception_applyAxle (s : State) (w : AxleWrite) (k : AxleKind) :
    (s.applyAxle w k).reception = s.reception := by
  simp only [State.applyAxle, State.reception_recomputeWarn, State.reception_refreshIdle]
  have hkind : (if k = (s.axle w.axle).kind then s else s.changeKind w.axle k).reception = s.reception :=
    reception_ite rfl (s.reception_changeKind _ _)
  generalize (if k = (s.axle w.axle).kind then s else s.changeKind w.axle k) = kinded at hkind ⊢
  have hmarked : ∀ x, (if w.targets (kinded.axle w.axle) = s.axle w.axle then kinded.setAxle w.axle x
      else (kinded.setAxle w.axle x).mark (sectionOf (truckAxle w.axle))).reception = s.reception :=
    fun _ => reception_ite hkind hkind
  exact reception_ite (hmarked _) ((State.reception_reevaluate _).trans (hmarked _))
@[simp] theorem State.reception_clearVehicleSection (s : State) (truck : Bool) :
    (s.clearVehicleSection truck).reception = s.reception := by
  unfold State.clearVehicleSection; dsimp only
  have hcleared : ∀ (u : State) (ps : List Pos) (gone : Pos → Bool), u.reception = s.reception →
      ((u.resetAll ps).removeFromTeach gone true .complete).reception = s.reception := by
    intro u ps gone hu
    rw [State.reception_removeFromTeach, State.reception_resetAll, hu]
  exact reception_ite ((State.reception_mark _ _).trans (hcleared _ _ _ rfl)) (hcleared _ _ _ rfl)
@[simp] theorem State.reception_applyProfile (s : State) (i : ProfileNo) (x : Profile) :
    (s.applyProfile i x).reception = s.reception := by
  simp only [State.applyProfile, State.reception_recomputeWarn, State.reception_refreshIdle]
  exact reception_ite rfl (reception_ite (State.reception_reevaluate _) rfl)
@[simp] theorem State.reception_applySettings (s : State) (x : Settings) :
    (s.applySettings x).reception = s.reception := by
  unfold State.applySettings; dsimp only
  have hstored : ∀ u : State, u.reception = s.reception →
      (if x.tref = s.settings.tref then u else u.reevaluate).refreshIdle.recomputeWarn.reception = s.reception := by
    intro u hu
    simp only [State.reception_recomputeWarn, State.reception_refreshIdle]
    exact reception_ite hu (u.reception_reevaluate.trans hu)
  refine reception_ite (hstored _ (reception_ite rfl rfl)) ?_
  rw [State.reception_restartFlash]
  exact hstored _ (reception_ite rfl rfl)
@[simp] theorem State.reception_finishSection (s : State) (n : SectionName) (rest : List SectionName)
    (r : SaveResult) : (s.finishSection n rest r).reception = s.reception := by
  unfold State.finishSection; dsimp only
  have hwritten : ∀ u : State, u.reception = s.reception →
      (if rest.isEmpty then ({ u with grant := { u.grant with toSave := rest } } : State).handover
        else { u with grant := { u.grant with toSave := rest } }).reception = s.reception := by
    intro u hu
    exact reception_ite ((State.reception_handover _).trans hu) hu
  cases r with
  | passedFirst => exact hwritten _ rfl
  | passedSecond => exact hwritten _ rfl
  | failedTwice => exact hwritten _ rfl

/-! The two gates. -/

theorem State.reception_request {α : Type} {s : State} {r : Request} {code : Byte} {ops : Option α}
    {own : α → State → State} (hown : ∀ x, (own x s).reception = s.reception) :
    (s.request r code ops own).reception = s.reception := by
  obtain h | ⟨o, h⟩ | ⟨-, x, -, h⟩ := s.request_cases r code ops own
  · rw [h]
  · rw [h, State.reception_refuse]
  · rw [h, hown]

theorem State.reception_edit {α : Type} {s : State} {r : Request} {code : Byte} {ops : Option α}
    {own : α → State → State} (hown : ∀ x, (own x s).reception = s.reception) :
    (s.edit r code ops own).reception = s.reception := by
  obtain h | ⟨o, h⟩ | ⟨-, x, -, h⟩ := s.edit_cases r code ops own
  · rw [h]
  · rw [h, State.reception_refuse]
  · rw [h, hown]

/-- A code that names no request is judged as a request whose operands cannot be read (R166). -/
theorem exec_unknownRequest {code : Byte} (h : namesRequest code = false) (r : Request) (s : State) :
    exec (.unknownRequest code r) s = .next (s.request r code (none : Option Unit) fun _ s => s) :=
  if_neg (by simp only [h, Bool.false_eq_true, not_false_eq_true])

/-! ### Every command but six keeps the reception side -/

/-- The commands that change the lines, the Merge Buffer or the phase: start-up, the events of the lines and the
windows, and READ LINE STATUS, which can clear a line's error counts. -/
def movesReception : Instr → Bool
  | .deviceReset _ _ => true
  | .endOfStarting => true
  | .receivedByte _ _ _ => true
  | .gapExpiry _ => true
  | .windowExpiry _ _ => true
  | .readLineStatus _ => true
  | _ => false

/-- The events: deadlines, inputs, the transmitters, the grant's timer, a save and the saturation of kept ticks. -/
theorem exec_reception_of_event {c : Instr} (hevent : requestOf c = none) (hc : movesReception c = false)
    (s : State) : ∃ t : State, exec c s = .next t ∧ t.reception = s.reception := by
  cases c with
  | deviceReset straps cut => cases hc
  | endOfStarting => cases hc
  | receivedByte i stopHigh v => cases hc
  | gapExpiry run => cases hc
  | windowExpiry id seq => cases hc
  | deadlineExpiry p => exact ⟨_, rfl, reception_ite (by simp) rfl⟩
  | stepDeadlineExpiry =>
    refine ⟨_, rfl, ?_⟩
    split
    · rfl
    · exact reception_ite (s.reception_endTeach _) rfl
  | trlChange high => exact ⟨_, rfl, rfl⟩
  | trlDebounceExpiry =>
    refine ⟨_, rfl, reception_ite ?_ rfl⟩
    rw [State.reception_recomputeWarn]
    refine reception_ite (State.reception_recouple _) ?_
    rw [State.reception_removeFromTeach, State.reception_decouple]
    rfl
  | bodyChange high => exact ⟨_, rfl, rfl⟩
  | bodyDebounceExpiry =>
    refine ⟨_, rfl, reception_ite ?_ rfl⟩
    rw [State.reception_recomputeWarn]
    exact reception_ite (State.reception_bodyRises _) (State.reception_bodyFalls _)
  | flashPhase => exact ⟨_, rfl, reception_ite rfl rfl⟩
  | cyclicReport port =>
    refine ⟨_, rfl, reception_ite ?_ rfl⟩
    dsimp only
    split <;> simp
  | frameOffer port =>
    refine ⟨_, rfl, reception_ite ?_ rfl⟩
    split <;> rfl
  | attemptEnd port result =>
    refine ⟨_, rfl, reception_ite ?_ rfl⟩
    cases result with
    | success => rfl
    | lostArbitration => rfl
    | failure => exact reception_ite (s.reception_portReset port) rfl
  | busOffReturn port =>
    refine ⟨_, rfl, ?_⟩
    dsimp only
    split
    · rfl
    · exact reception_ite rfl rfl
  | idleExpiry =>
    refine ⟨_, rfl, ?_⟩
    split
    · exact reception_ite (by simp) rfl
    · rfl
    · rfl
  | sectionSave result =>
    refine ⟨_, rfl, reception_ite ?_ rfl⟩
    split
    · rfl
    · exact s.reception_finishSection _ _ _
  | keptTickSaturation =>
    refine ⟨_, exec_keptTickSaturation s, ?_⟩
    rw [State.saturated_frame]; simp only [State.reception]
  | _ => cases hevent

/-- The requests: each answers, and what its block does besides keeps the reception side. -/
theorem exec_reception_of_request {c : Instr} {code : Byte} {r : Request} (hrequest : requestOf c = some (code, r))
    (hw : c.wellFormed = true) (hc : movesReception c = false) (s : State) :
    ∃ t : State, exec c s = .next t ∧ t.reception = s.reception := by
  cases c with
  | readLineStatus r => cases hc
  | readPosition r => exact ⟨_, rfl, State.reception_request fun _ => State.reception_answer ..⟩
  | readAxle r => exact ⟨_, rfl, State.reception_request fun _ => State.reception_answer ..⟩
  | readProfile r => exact ⟨_, rfl, State.reception_request fun _ => State.reception_answer ..⟩
  | readSettings r => exact ⟨_, rfl, State.reception_request fun _ => State.reception_answer ..⟩
  | readForeign r =>
    refine ⟨_, rfl, State.reception_request fun i => ?_⟩
    split
    · exact s.reception_refuse ..
    · exact s.reception_answer ..
  | readStack r => exact ⟨_, rfl, State.reception_request fun _ => State.reception_answer ..⟩
  | readStatus r => exact ⟨_, rfl, State.reception_request fun _ => State.reception_answer ..⟩
  | ack r => exact ⟨_, rfl, State.reception_request fun _ => by simp⟩
  | hold r =>
    refine ⟨_, rfl, State.reception_request fun p => ?_⟩
    split <;> simp
  | unhold r => exact ⟨_, rfl, State.reception_request fun _ => reception_ite (by simp) (by simp)⟩
  | push r => exact ⟨_, rfl, State.reception_request fun _ => by simp⟩
  | pop r =>
    refine ⟨_, rfl, State.reception_request fun _ => ?_⟩
    split <;> simp
  | grantRequest r =>
    refine ⟨_, rfl, State.reception_request fun _ => ?_⟩
    split
    · simp
    · exact reception_ite (by simp) (by simp)
    · simp
  | grantRelease r =>
    exact ⟨_, rfl, State.reception_request fun _ =>
      reception_ite (by simp) (reception_ite (by simp) (by simp))⟩
  | writePosition r =>
    exact ⟨_, rfl, State.reception_edit fun _ =>
      reception_ite (by simp) (reception_ite (by simp) (reception_ite (by simp) (by simp)))⟩
  | writeAxle r =>
    refine ⟨_, rfl, State.reception_edit fun w => ?_⟩
    dsimp only
    split
    · simp
    · exact reception_ite (by simp) (reception_ite (by simp) (by simp))
  | writeProfile r => exact ⟨_, rfl, State.reception_edit fun _ => reception_ite (by simp) (by simp)⟩
  | writeSettings r =>
    refine ⟨_, rfl, State.reception_edit fun w => ?_⟩
    split <;> simp
  | clearSection r => exact ⟨_, rfl, State.reception_edit fun _ => reception_ite (by simp) (by simp)⟩
  | lockTruck r =>
    refine ⟨_, rfl, State.reception_edit fun _ => ?_⟩
    rw [State.reception_reply, State.reception_refreshIdle]
    rfl
  | teachStart r =>
    refine ⟨_, rfl, State.reception_edit fun codes => reception_ite (by simp) ?_⟩
    split
    · simp
    · exact State.reception_answer ..
  | teachAppend r =>
    refine ⟨_, rfl, State.reception_edit fun codes => ?_⟩
    split
    · simp
    · split
      · simp
      · exact State.reception_answer ..
  | teachAbort r =>
    refine ⟨_, rfl, State.reception_edit fun _ => ?_⟩
    split <;> simp
  | vehicleState r =>
    refine ⟨_, rfl, reception_ite ?_ rfl⟩
    rw [State.reception_recomputeWarn, State.reception_reevaluate]
    rfl
  | unknownRequest code r =>
    have hcode : namesRequest code = false := by simpa [Instr.wellFormed] using hw
    exact ⟨_, exec_unknownRequest hcode r s, State.reception_request fun _ => rfl⟩
  | _ => cases hrequest

theorem exec_reception {c : Instr} (hw : c.wellFormed = true) (hc : movesReception c = false) (s : State) :
    ∃ t : State, exec c s = .next t ∧ t.reception = s.reception := by
  cases hrequest : requestOf c with
  | none => exact exec_reception_of_event hrequest hc s
  | some codeAndFrame => exact exec_reception_of_request hrequest hw hc s

/-! ### The error counts of a line (R15) -/

/-- An error count rises by one and stays at 65,535 (R15). -/
theorem countUp_eq (n : Word16) : countUp n = if n = 0xFFFF#16 then 0xFFFF#16 else n + 1 := by
  by_cases h : n = 0xFFFF#16
  · exact (if_pos h).trans (h.trans (if_pos h).symm)
  · exact (if_neg h).trans (if_neg h).symm

theorem Line.abandon_eq (x : Line) : x.abandon = { x with
    assembly := .hunt, store := [], gapTimer := none
    framing := if x.framing = 0xFFFF#16 then 0xFFFF#16 else x.framing + 1 } := by
  rw [← countUp_eq]; rfl

/-! ### A byte on a line (R3 to R8) -/

theorem exec_receivedByte_running {s : State} (h : s.phase = .running) (i : Fin 4) (v : Byte) :
    exec (.receivedByte i true v) s = .next (s.takeByte i v) := by
  simp only [exec, execReceivedByte, h, beq_self_eq_true, Bool.and_self, if_true]

theorem exec_receivedByte_lowStop (s : State) (i : Fin 4) (v : Byte) :
    exec (.receivedByte i false v) s = .next s := rfl

theorem exec_receivedByte_starting {s : State} (h : s.phase = .starting) (i : Fin 4) (stopHigh : Bool) (v : Byte) :
    exec (.receivedByte i stopHigh v) s = .next s := by
  have hphase : (s.phase == Phase.running) = false := by rw [h]; rfl
  simp only [exec, execReceivedByte, hphase, Bool.and_false, Bool.false_eq_true, if_false]

theorem exec_receivedByte_discarded {s : State} {i : Fin 4} {stopHigh : Bool} {v : Byte}
    (h : ¬ (stopHigh = true ∧ s.phase = .running)) : exec (.receivedByte i stopHigh v) s = .next s := by
  cases stopHigh with
  | false => exact exec_receivedByte_lowStop s i v
  | true =>
    cases hp : s.phase with
    | starting => exact exec_receivedByte_starting hp i true v
    | running => exact absurd ⟨rfl, hp⟩ h

section TakeByte

variable {s : State} {i : Fin 4} {v : Byte}

theorem State.takeByte_hunt_sync (h : (s.line i).assembly = .hunt) (hv : v = 0x7E#8) :
    s.takeByte i v = s.setLine i ({ s.line i with assembly := .length, store := [] }.startGap s.tick) := by
  simp only [State.takeByte, h]
  exact if_pos hv

theorem State.takeByte_hunt_other (h : (s.line i).assembly = .hunt) (hv : v ≠ 0x7E#8) : s.takeByte i v = s := by
  simp only [State.takeByte, h]
  exact if_neg hv

theorem State.takeByte_length_len (h : (s.line i).assembly = .length) (hv : v = 0x0C#8) :
    s.takeByte i v = s.setLine i ({ s.line i with assembly := .body, store := [] }.startGap s.tick) := by
  simp only [State.takeByte, h]
  exact if_pos hv

theorem State.takeByte_length_sync (h : (s.line i).assembly = .length) (hv : v = 0x7E#8) :
    s.takeByte i v = s.setLine i ((s.line i).startGap s.tick) := by
  have hlen : v ≠ Config.lenByte := by rw [hv]; decide
  simp only [State.takeByte, h, if_neg hlen]
  exact if_pos hv

theorem State.takeByte_length_other (h : (s.line i).assembly = .length) (hlen : v ≠ 0x0C#8) (hsync : v ≠ 0x7E#8) :
    s.takeByte i v = s.setLine i (s.line i).abandon := by
  simp only [State.takeByte, h]
  exact (if_neg hlen).trans (if_neg hsync)

theorem State.takeByte_body_stored (h : (s.line i).assembly = .body) (hroom : (s.line i).store.length + 1 < 12) :
    s.takeByte i v =
      s.setLine i ({ s.line i with store := (s.line i).store ++ [v] }.startGap s.tick) := by
  simp only [State.takeByte, h, List.length_append, List.length_singleton]
  exact if_pos hroom

theorem State.takeByte_body_complete (h : (s.line i).assembly = .body)
    (hroom : ¬ (s.line i).store.length + 1 < 12) :
    s.takeByte i v = s.completeFrame i (s.line i).toHunt ((s.line i).store ++ [v]) := by
  simp only [State.takeByte, h, List.length_append, List.length_singleton]
  exact if_neg hroom

end TakeByte

/-- Settles O7, from one equation for each way a byte goes in HUNT and in LENGTH. -/
theorem byteInHuntAndLength : Obligations.ByteInHuntAndLength := by
  intro i v s
  refine ⟨fun hp ha hv => ?_, fun hp ha hv => ?_, fun hp ha hv => ?_, fun hp ha hv => ?_,
    fun hp ha hlen hsync => ?_, exec_receivedByte_lowStop s i v,
    fun hp stopHigh => exec_receivedByte_starting hp i stopHigh v⟩ <;>
    rw [exec_receivedByte_running hp]
  · rw [State.takeByte_hunt_sync ha hv]; rfl
  · rw [State.takeByte_hunt_other ha hv]
  · rw [State.takeByte_length_len ha hv]; rfl
  · rw [State.takeByte_length_sync ha hv]; rfl
  · rw [State.takeByte_length_other ha hlen hsync, Line.abandon_eq]

/-! ### The checks of a complete frame (R9 to R13, R179) -/

theorem toNat_foldl_add (bytes : List Byte) (a : Byte) :
    (bytes.foldl (· + ·) a).toNat = ((bytes.map (·.toNat)).sum + a.toNat) % 256 := by
  induction bytes generalizing a with
  | nil => have := a.isLt; simp; omega
  | cons b bytes ih =>
    rw [List.foldl_cons, ih, List.map_cons, List.sum_cons, BitVec.toNat_add]
    omega

/-- The line check passes where LEN and the twelve bytes after it sum to a multiple of 256 (R10). -/
theorem lineCheck_iff (bytes : List Byte) :
    lineCheck bytes = true ↔ ((bytes.map (·.toNat)).sum + 12) % 256 = 0 := by
  rw [lineCheck, beq_iff_eq, ← BitVec.toNat_inj, toNat_foldl_add]
  rfl

theorem telegramCheck_iff (bytes : List Byte) :
    telegramCheck bytes = true ↔ crc8 (bytes.take 9) = bytes.getD 9 0 := by
  rw [telegramCheck, beq_iff_eq]

theorem toNat_kindBits (x : Byte) : (x.extractLsb' 6 2).toNat = x.toNat / 64 := by
  have := x.isLt
  rw [BitVec.extractLsb'_toNat, Nat.shiftRight_eq_div_pow]
  omega

theorem toNat_indexBits (x : Byte) : (x.extractLsb' 4 2).toNat = x.toNat / 16 % 4 := by
  rw [BitVec.extractLsb'_toNat, Nat.shiftRight_eq_div_pow]

theorem toNat_seqBits (x : Byte) : (x.extractLsb' 0 4).toNat = x.toNat % 16 := by
  rw [BitVec.extractLsb'_toNat, Nat.shiftRight_zero]

/-- What the kind bits of a telegram name: nothing with code 3, else the kind of their code (R12, R179). -/
theorem telegramKind_spec (bytes : List Byte) :
    (telegramKind bytes = none ∧ (bytes.getD 4 0).toNat / 64 = 3) ∨
      ∃ kind, telegramKind bytes = some kind ∧ kind.code = (bytes.getD 4 0).toNat / 64 ∧
        (bytes.getD 4 0).toNat / 64 ≠ 3 := by
  unfold telegramKind
  rw [toNat_kindBits]
  have hlt : (bytes.getD 4 0).toNat / 64 < 4 := by have := (bytes.getD 4 0).isLt; omega
  generalize (bytes.getD 4 0).toNat / 64 = n at hlt ⊢
  match n, hlt with
  | 0, _ => exact .inr ⟨.periodic, rfl, rfl, by decide⟩
  | 1, _ => exact .inr ⟨.alert, rfl, rfl, by decide⟩
  | 2, _ => exact .inr ⟨.trigger, rfl, rfl, by decide⟩
  | 3, _ => exact .inl ⟨rfl, rfl⟩

theorem extractLsb'_append_low {n : Nat} (x : BitVec n) (y : Byte) : (x ++ y).extractLsb' 0 8 = y := by
  rw [BitVec.extractLsb'_append_eq_of_add_le (by decide), BitVec.extractLsb'_eq_self]

theorem extractLsb'_append_high {n : Nat} (k : Nat) (x : BitVec n) (y : Byte) :
    (x ++ y).extractLsb' (k + 8) 8 = x.extractLsb' k 8 := by
  rw [BitVec.extractLsb'_append_eq_of_le (by omega), Nat.add_sub_cancel]

/-- The four bytes of an ID are those it was put together from (R181). -/
theorem be32_append (a b c d : Byte) : be32 (a ++ b ++ c ++ d) = [a, b, c, d] := by
  have byte0 : (a ++ b ++ c ++ d).extractLsb' 0 8 = d := extractLsb'_append_low _ d
  have byte1 : (a ++ b ++ c ++ d).extractLsb' 8 8 = c :=
    (extractLsb'_append_high 0 _ d).trans (extractLsb'_append_low _ c)
  have byte2 : (a ++ b ++ c ++ d).extractLsb' 16 8 = b :=
    (extractLsb'_append_high 8 _ d).trans
      ((extractLsb'_append_high 0 _ c).trans (extractLsb'_append_low _ b))
  have byte3 : (a ++ b ++ c ++ d).extractLsb' 24 8 = a :=
    (extractLsb'_append_high 16 _ d).trans
      ((extractLsb'_append_high 8 _ c).trans ((extractLsb'_append_high 0 _ b).trans BitVec.extractLsb'_eq_self))
  exact congrArg₂ _ byte3 (congrArg₂ _ byte2 (congrArg₂ _ byte1 (congrArg₂ _ byte0 rfl)))

/-- The ID of a telegram, byte by byte, is its first four bytes (R179, R181). -/
theorem be32_telegramId {bytes : List Byte} (h : 4 ≤ bytes.length) :
    be32 (telegramId bytes) = bytes.take 4 := by
  match bytes, h with
  | a :: b :: c :: d :: rest, _ => exact be32_append a b c d

theorem telegramId_take {bytes : List Byte} (h : 4 ≤ bytes.length) :
    telegramId (bytes.take 4) = telegramId bytes := by
  match bytes, h with
  | a :: b :: c :: d :: rest, _ => rfl

/-- A telegram's ID is invalid exactly where its four bytes are all 00h or all FFh (R12, R35). -/
theorem validId_telegramId {bytes : List Byte} (h : 4 ≤ bytes.length) :
    validId (telegramId bytes) = true ↔
      bytes.take 4 ≠ [0, 0, 0, 0] ∧ bytes.take 4 ≠ [0xFF, 0xFF, 0xFF, 0xFF] := by
  have hzero : telegramId bytes = 0x00000000#32 ↔ bytes.take 4 = [0, 0, 0, 0] :=
    ⟨fun hid => by rw [← be32_telegramId h, hid]; decide, fun hb => by rw [← telegramId_take h, hb]; decide⟩
  have hones : telegramId bytes = 0xFFFFFFFF#32 ↔ bytes.take 4 = [0xFF, 0xFF, 0xFF, 0xFF] :=
    ⟨fun hid => by rw [← be32_telegramId h, hid]; decide, fun hb => by rw [← telegramId_take h, hb]; decide⟩
  rw [validId, Bool.and_eq_true, bne_iff_ne, bne_iff_ne, ne_eq, hzero, ne_eq, hones]

/-! The first check that fails decides (R9). -/

section Validate

variable {i : Fin 4} {bytes : List Byte}

theorem validate_badCheck (h : ((bytes.map (·.toNat)).sum + 12) % 256 ≠ 0) : validate i bytes = .badCheck := by
  have hline : lineCheck bytes = false := by rwa [← Bool.not_eq_true, lineCheck_iff]
  simp only [validate, hline, Bool.not_false, if_true]

theorem validate_badCrc (hsum : ((bytes.map (·.toNat)).sum + 12) % 256 = 0)
    (h : crc8 (bytes.take 9) ≠ bytes.getD 9 0) : validate i bytes = .badCrc := by
  have htele : telegramCheck bytes = false := by rwa [← Bool.not_eq_true, telegramCheck_iff]
  simp only [validate, (lineCheck_iff bytes).2 hsum, htele, Bool.not_true, Bool.false_eq_true, if_false,
    Bool.not_false, if_true]

theorem validate_noKind (hsum : ((bytes.map (·.toNat)).sum + 12) % 256 = 0)
    (hcrc : crc8 (bytes.take 9) = bytes.getD 9 0) (hkind : telegramKind bytes = none) :
    validate i bytes = .badIdent := by
  simp only [validate, (lineCheck_iff bytes).2 hsum, (telegramCheck_iff bytes).2 hcrc, hkind, Bool.not_true,
    Bool.false_eq_true, if_false]

theorem validate_kind {kind : TeleKind} (hsum : ((bytes.map (·.toNat)).sum + 12) % 256 = 0)
    (hcrc : crc8 (bytes.take 9) = bytes.getD 9 0) (hkind : telegramKind bytes = some kind) :
    validate i bytes = if validId (telegramId bytes) then .valid (decodeCopy i kind bytes) else .badIdent := by
  simp only [validate, (lineCheck_iff bytes).2 hsum, (telegramCheck_iff bytes).2 hcrc, hkind, Bool.not_true,
    Bool.false_eq_true, if_false]

theorem validate_badIdent (hlen : 4 ≤ bytes.length) (hsum : ((bytes.map (·.toNat)).sum + 12) % 256 = 0)
    (hcrc : crc8 (bytes.take 9) = bytes.getD 9 0)
    (h : (bytes.getD 4 0).toNat / 64 = 3 ∨ bytes.take 4 = [0, 0, 0, 0] ∨
      bytes.take 4 = [0xFF, 0xFF, 0xFF, 0xFF]) : validate i bytes = .badIdent := by
  obtain ⟨hnone, -⟩ | ⟨kind, hsome, -, hkind⟩ := telegramKind_spec bytes
  · exact validate_noKind hsum hcrc hnone
  · have hid : ¬ validId (telegramId bytes) = true := by
      rw [validId_telegramId hlen, not_and_or, not_not, not_not]
      exact h.resolve_left hkind
    rw [validate_kind hsum hcrc hsome, if_neg hid]

theorem validate_valid (hlen : 4 ≤ bytes.length) (hsum : ((bytes.map (·.toNat)).sum + 12) % 256 = 0)
    (hcrc : crc8 (bytes.take 9) = bytes.getD 9 0) (hkind : (bytes.getD 4 0).toNat / 64 ≠ 3)
    (hzero : bytes.take 4 ≠ [0, 0, 0, 0]) (hones : bytes.take 4 ≠ [0xFF, 0xFF, 0xFF, 0xFF]) :
    ∃ kind, validate i bytes = .valid (decodeCopy i kind bytes) ∧
      kind.code = (bytes.getD 4 0).toNat / 64 := by
  obtain ⟨-, hthree⟩ | ⟨kind, hsome, hcode, -⟩ := telegramKind_spec bytes
  · exact absurd hthree hkind
  · refine ⟨kind, ?_, hcode⟩
    rw [validate_kind hsum hcrc hsome, if_pos ((validId_telegramId hlen).2 ⟨hzero, hones⟩)]

/-- A valid copy carries a valid sensor ID (R12). -/
theorem validId_of_validate {c : Copy} (h : validate i bytes = .valid c) : validId c.id = true := by
  unfold validate at h
  split at h
  · cases h
  split at h
  · cases h
  split at h
  · cases h
  split at h
  · rename_i hid
    cases h
    exact hid
  · cases h

end Validate

/-- A pressure field names a pressure below 1023 (R13). -/
theorem decodePressure_bytes (hi lo : Byte) :
    decodePressure (hi.toNat * 256 + lo.toNat) =
      if hi.toNat < 4 ∧ hi.toNat * 256 + lo.toNat ≠ 1023 then some (2 * (hi.toNat * 256 + lo.toNat)) else none := by
  have hlo : lo.toNat < 256 := lo.isLt
  unfold decodePressure
  by_cases h : hi.toNat * 256 + lo.toNat ≥ 1023
  · rw [if_pos h, if_neg (by omega)]
  · rw [if_neg h, if_pos (by omega)]

/-- Settles O8: the byte stored, or the complete frame by the verdict of `validate`, whose valid copy is
`decodeCopy`. -/
theorem byteInBodyAndValidation : Obligations.ByteInBodyAndValidation := by
  intro i v s hp ha
  rw [exec_receivedByte_running hp]
  refine ⟨fun hroom => by rw [State.takeByte_body_stored ha hroom]; rfl, ?_⟩
  intro bytes x hbytes hlen hx
  have hfull : ¬ (s.line i).store.length + 1 < 12 := by
    rw [hbytes, List.length_append, List.length_singleton] at hlen
    omega
  have htoHunt : (s.line i).toHunt = x := hx.symm
  have hfour : 4 ≤ bytes.length := by omega
  rw [State.takeByte_body_complete ha hfull, ← hbytes, htoHunt, State.completeFrame]
  refine ⟨fun hsum => ?_, fun hsum hcrc => ?_, fun hsum hcrc hident => ?_, fun hsum hcrc hkind hzero hones => ?_⟩
  · simp only [validate_badCheck hsum, countUp_eq]
  · simp only [validate_badCrc hsum hcrc, countUp_eq]
  · simp only [validate_badIdent hfour hsum hcrc hident, countUp_eq]
  · obtain ⟨kind, hvalid, hcode⟩ := validate_valid (i := i) hfour hsum hcrc hkind hzero hones
    simp only [hvalid]
    exact ⟨_, rfl, be32_telegramId hfour, toNat_seqBits _, toNat_indexBits _, hcode, rfl, rfl, rfl,
      decodePressure_bytes _ _, rfl, rfl, rfl⟩

/-! ### The CRCs (R11, R158) -/

theorem crc8Bit_eq_zero (c : BitVec 8) : crc8Bit c = 0 ↔ c = 0 := by revert c; decide

/-- The register with one byte more is 0 exactly where that byte is the register (R11). -/
theorem crc8_append_eq_zero (bytes : List Byte) (c : Byte) : crc8 (bytes ++ [c]) = 0 ↔ crc8 bytes = c := by
  rw [crc8, List.foldl_append, ← crc8]
  simp only [List.foldl_cons, List.foldl_nil, crc8Bit_eq_zero]
  exact BitVec.xor_eq_zero_iff

/-- Settles O9: the two forms by the register's last byte, the check values by running the CRCs. -/
theorem crcFormsAgree : Obligations.CrcFormsAgree :=
  ⟨crc8_append_eq_zero, by decide +kernel, by decide +kernel⟩

/-! ### A copy in the Merge Buffer (R17 to R23) -/

/-- The Merge Buffer after a copy: the entry of its key joined, or an entry opened at the newest end, the oldest
one gone where the buffer was full. -/
def mergeWith (l : List MergeEntry) (c : Copy) (now : Tick) : List MergeEntry :=
  if l.any (sameKey c) then l.map fun e => if sameKey c e then joinEntry e c else e
  else (if l.length < Config.mergeCapacity then l else l.tail) ++ [openEntry c now]

/-- On the reception side a copy changes the Merge Buffer alone. -/
theorem State.reception_takeCopy (s : State) (c : Copy) :
    (s.takeCopy c).reception = { s.reception with merge := mergeWith s.merge c s.tick } := by
  unfold State.takeCopy mergeWith
  by_cases hjoin : s.merge.any (sameKey c) = true
  · rw [if_pos hjoin, if_pos hjoin]; rfl
  · rw [if_neg hjoin, if_neg hjoin]
    by_cases hroom : s.merge.length < Config.mergeCapacity
    · rw [if_pos hroom, if_pos hroom]; rfl
    · rw [if_neg hroom, if_neg hroom]
      cases hmerge : s.merge with
      | nil => rw [hmerge] at hroom; exact absurd (by decide) hroom
      | cons oldest rest =>
        obtain ⟨hpending, hphase, hlines, hrest⟩ := State.reception_eq_iff.1
          (({ s with merge := rest } : State).reception_deliver oldest.delivery)
        simp only [State.openWindow, State.reception, hpending, hphase, hlines, hrest, List.tail_cons]

theorem sameKey_iff (c : Copy) (e : MergeEntry) : sameKey c e = true ↔ e.id = c.id ∧ e.seq = c.seq := by
  rw [sameKey, Bool.and_eq_true, beq_iff_eq, beq_iff_eq]

theorem lineMaskOf_ne_zero (i : Fin 4) : lineMaskOf i ≠ 0 := by revert i; decide

theorem frameSetOf_ne_zero (i : BitVec 2) : frameSetOf i ≠ 0 := by revert i; decide

theorem or_ne_zero {a : BitVec 4} (b : BitVec 4) (h : a ≠ 0) : a ||| b ≠ 0 :=
  fun hor => h (BitVec.or_eq_zero_iff.1 hor).1

theorem openEntry_lawful {c : Copy} (h : validId c.id = true) (now : Tick) : (openEntry c now).Lawful where
  id := h
  lines := lineMaskOf_ne_zero c.line
  frames := frameSetOf_ne_zero c.frameIndex
  count := ⟨Nat.le_refl 1, Nat.le_add_left 1 15⟩

theorem joinEntry_lawful {e : MergeEntry} (h : e.Lawful) (c : Copy) : (joinEntry e c).Lawful where
  id := h.id
  lines := or_ne_zero _ h.lines
  frames := or_ne_zero _ h.frames
  count := ⟨Nat.le_min.2 ⟨by decide, Nat.le_add_left 1 _⟩, Nat.min_le_left _ _⟩

theorem mergeWith_room {l : List MergeEntry} (c : Copy) (now : Tick) (h : l.length ≤ Config.mergeCapacity) :
    (mergeWith l c now).length ≤ Config.mergeCapacity := by
  unfold mergeWith
  split
  · rwa [List.length_map]
  · split
    · rwa [List.length_append, List.length_singleton]
    · rename_i hfull
      rw [List.length_append, List.length_singleton, List.length_tail]
      simp only [Config.mergeCapacity] at h hfull ⊢
      omega

theorem mergeWith_keys {l : List MergeEntry} (c : Copy) (now : Tick) (h : l.Pairwise MergeEntry.keyDiffers) :
    (mergeWith l c now).Pairwise MergeEntry.keyDiffers := by
  unfold mergeWith
  split
  · refine List.pairwise_map.2 (h.imp fun {e f} hef => ?_)
    have hkey : ∀ e : MergeEntry, (if sameKey c e then joinEntry e c else e).id = e.id ∧
        (if sameKey c e then joinEntry e c else e).seq = e.seq := by
      intro e
      split
      · exact ⟨rfl, rfl⟩
      · exact ⟨rfl, rfl⟩
    simpa only [MergeEntry.keyDiffers, hkey] using hef
  · rename_i hnew
    have hkept : (if l.length < Config.mergeCapacity then l else l.tail).Sublist l := by
      split
      · exact List.Sublist.refl l
      · exact l.tail_sublist
    refine List.pairwise_append.2 ⟨h.sublist hkept, List.pairwise_singleton .., fun e he f hf hsame => ?_⟩
    rw [List.mem_singleton] at hf
    subst hf
    exact hnew (List.any_eq_true.2 ⟨e, hkept.subset he, (sameKey_iff c e).2 hsame⟩)

theorem mergeWith_entries {l : List MergeEntry} {c : Copy} (now : Tick) (hc : validId c.id = true)
    (h : ∀ e ∈ l, e.Lawful) : ∀ e ∈ mergeWith l c now, e.Lawful := by
  unfold mergeWith
  split
  · intro e he
    obtain ⟨f, hf, rfl⟩ := List.mem_map.1 he
    split
    · exact joinEntry_lawful (h f hf) c
    · exact h f hf
  · intro e he
    obtain hold | hopened := List.mem_append.1 he
    · refine h e ?_
      split at hold
      · exact hold
      · exact List.mem_of_mem_tail hold
    · rw [List.mem_singleton.1 hopened]
      exact openEntry_lawful hc now

/-- The law of the Merge Buffer is a law of its entries alone. -/
theorem State.MergeLaw.of_merge {s t : State} (hs : s.MergeLaw) (h : t.merge = s.merge) : t.MergeLaw where
  room := h ▸ hs.room
  keys := h ▸ hs.keys
  entries := h ▸ hs.entries

theorem State.MergeLaw.takeCopy {s : State} (h : s.MergeLaw) {c : Copy} (hc : validId c.id = true) :
    (s.takeCopy c).MergeLaw := by
  have hmerge : (s.takeCopy c).merge = mergeWith s.merge c s.tick :=
    congrArg Reception.merge (s.reception_takeCopy c)
  exact ⟨hmerge ▸ mergeWith_room c s.tick h.room, hmerge ▸ mergeWith_keys c s.tick h.keys,
    hmerge ▸ mergeWith_entries s.tick hc h.entries⟩

/-! ### What a byte can do to its line -/

theorem Line.lawful_of_hunt {x : Line} (ha : x.assembly = .hunt) (hs : x.store = []) (ht : x.gapTimer = none) :
    x.Lawful where
  timer := by rw [ha, ht]; exact ⟨fun _ => rfl, fun _ => rfl⟩
  store _ := hs
  short := by rw [hs]; decide

theorem Line.abandon_lawful (x : Line) : x.abandon.Lawful := Line.lawful_of_hunt rfl rfl rfl

theorem Line.startGap_lawful {x : Line} (now : Tick) (ha : x.assembly ≠ .hunt)
    (hs : x.assembly ≠ .body → x.store = []) (hshort : x.store.length < Config.bodyBytes) :
    (x.startGap now).Lawful where
  timer := ⟨nofun, fun h => absurd h ha⟩
  store := hs
  short := hshort

/-- The lines depend on their vector alone. -/
theorem State.line_congr {s t : State} (h : t.lines = s.lines) (i : Fin 4) : t.line i = s.line i := by
  rw [State.line, State.line, h]

theorem State.setLine_line (s : State) (i : Fin 4) : s.setLine i (s.line i) = s := by
  rw [State.setLine, State.line, Vector.set_getElem_self]

/-- What a complete frame does: one error count rises, or its copy, with a valid ID, goes to the Merge Buffer; but
for the counts the line is `x`. -/
theorem State.completeFrame_cases (s : State) (i : Fin 4) (x : Line) (bytes : List Byte) :
    (∃ check crc ident, s.completeFrame i x bytes =
      s.setLine i { x with check := check, crc := crc, ident := ident }) ∨
    ∃ c : Copy, validId c.id = true ∧ s.completeFrame i x bytes = (s.setLine i x).takeCopy c := by
  unfold State.completeFrame
  cases h : validate i bytes with
  | badCheck => exact .inl ⟨countUp x.check, x.crc, x.ident, rfl⟩
  | badCrc => exact .inl ⟨x.check, countUp x.crc, x.ident, rfl⟩
  | badIdent => exact .inl ⟨x.check, x.crc, countUp x.ident, rfl⟩
  | valid c => exact .inr ⟨c, validId_of_validate h, rfl⟩

/-- What a byte does to its line: the line stays lawful, and where it was in a frame its gap timer stops or a new
run of it begins. -/
structure Line.TookByte (x y : Line) : Prop where
  lawful : x.Lawful → y.Lawful
  run : x.assembly ≠ .hunt → y.gapTimer = none ∨ y.gapRuns = x.gapRuns + 1

theorem Line.TookByte.refl_of_hunt {x : Line} (h : x.assembly = .hunt) : x.TookByte x :=
  ⟨id, fun hne => absurd h hne⟩

theorem Line.TookByte.of_hunt {x y : Line} (ha : y.assembly = .hunt) (hs : y.store = []) (ht : y.gapTimer = none) :
    x.TookByte y :=
  ⟨fun _ => Line.lawful_of_hunt ha hs ht, fun _ => .inl ht⟩

/-- Everything a received byte can do: its line moves on, and a complete valid frame hands over a copy. -/
theorem State.takeByte_cases (s : State) (i : Fin 4) (v : Byte) : ∃ y : Line,
    (s.takeByte i v = s.setLine i y ∨
      ∃ c : Copy, validId c.id = true ∧ s.takeByte i v = (s.setLine i y).takeCopy c) ∧
    (s.line i).TookByte y := by
  cases ha : (s.line i).assembly with
  | hunt =>
    by_cases hv : v = 0x7E#8
    · exact ⟨_, .inl (State.takeByte_hunt_sync ha hv),
        fun _ => Line.startGap_lawful _ nofun (fun _ => rfl) (Nat.succ_pos _), fun hne => absurd ha hne⟩
    · exact ⟨_, .inl ((State.takeByte_hunt_other ha hv).trans (s.setLine_line i).symm), .refl_of_hunt ha⟩
  | length =>
    by_cases hlen : v = 0x0C#8
    · exact ⟨_, .inl (State.takeByte_length_len ha hlen),
        fun _ => Line.startGap_lawful _ nofun (fun _ => rfl) (Nat.succ_pos _), fun _ => .inr rfl⟩
    · by_cases hsync : v = 0x7E#8
      · have hne : (s.line i).assembly ≠ .hunt := by rw [ha]; decide
        exact ⟨_, .inl (State.takeByte_length_sync ha hsync),
          fun h => Line.startGap_lawful _ hne h.store h.short, fun _ => .inr rfl⟩
      · exact ⟨_, .inl (State.takeByte_length_other ha hlen hsync), .of_hunt rfl rfl rfl⟩
  | body =>
    by_cases hroom : (s.line i).store.length + 1 < 12
    · have hne : (s.line i).assembly ≠ .hunt := by rw [ha]; decide
      have hshort : ((s.line i).store ++ [v]).length < Config.bodyBytes := by
        rwa [List.length_append, List.length_singleton]
      exact ⟨_, .inl (State.takeByte_body_stored ha hroom),
        fun _ => Line.startGap_lawful _ hne (fun h => absurd ha h) hshort, fun _ => .inr rfl⟩
    · rw [State.takeByte_body_complete ha hroom]
      obtain ⟨check, crc, ident, h⟩ | ⟨c, hc, h⟩ :=
        s.completeFrame_cases i (s.line i).toHunt ((s.line i).store ++ [v])
      · exact ⟨_, .inl h, .of_hunt rfl rfl rfl⟩
      · exact ⟨_, .inr ⟨c, hc, h⟩, .of_hunt rfl rfl rfl⟩

/-- The reception side after a byte: one line moved on, and perhaps a copy in the Merge Buffer. -/
theorem State.reception_takeByte (s : State) (i : Fin 4) (v : Byte) : ∃ (y : Line) (merge : List MergeEntry),
    (s.line i).TookByte y ∧ (s.takeByte i v).reception = { (s.setLine i y).reception with merge := merge } := by
  obtain ⟨y, h | ⟨c, -, h⟩, hy⟩ := s.takeByte_cases i v
  · exact ⟨y, s.merge, hy, by rw [h]; rfl⟩
  · exact ⟨y, _, hy, by rw [h, State.reception_takeCopy]⟩

/-! ### The six commands that move the reception side -/

theorem Line.restart_lawful (x : Line) : x.restart.Lawful := Line.lawful_of_hunt rfl rfl rfl

theorem exec_endOfStarting_reception (s : State) : ∃ t : State, exec .endOfStarting s = .next t ∧
    t.reception = { s.reception with phase := .running } := by
  refine ⟨_, rfl, ?_⟩
  cases hp : s.phase with
  | starting =>
    rw [if_pos rfl, State.reception_recomputeWarn]
    have hstarted : s.startRunning.reception = { s.reception with phase := .running } := rfl
    rw [← hstarted]
    exact reception_ite (State.reception_bodyRises _) rfl
  | running => rw [if_neg (by decide), ← hp]; rfl

theorem exec_gapExpiry_goesOn {s : State} {i : Fin 4} {n : Nat} (ht : (s.line i).gapTimer ≠ none)
    (hn : n = (s.line i).gapRuns) :
    exec (.gapExpiry { line := i, number := n }) s = .next (s.setLine i (s.line i).abandon) :=
  congrArg Host.Outcome.next (if_pos ⟨Option.isSome_iff_ne_none.2 ht, hn⟩)

theorem exec_gapExpiry_over {s : State} {i : Fin 4} {n : Nat}
    (h : (s.line i).gapTimer = none ∨ n ≠ (s.line i).gapRuns) :
    exec (.gapExpiry { line := i, number := n }) s = .next s := by
  refine congrArg Host.Outcome.next (if_neg fun hgoes => ?_)
  obtain ⟨hsome, hn⟩ := hgoes
  obtain hnone | hother := h
  · rw [hnone] at hsome
    cases hsome
  · exact hother hn

theorem exec_windowExpiry_oldest {s : State} {e : MergeEntry} {rest : List MergeEntry} {id : SensorId}
    {seq : BitVec 4} (hm : s.merge = e :: rest) (hid : e.id = id) (hseq : e.seq = seq) :
    exec (.windowExpiry id seq) s = .next (({ s with merge := rest } : State).deliver e.delivery) := by
  simp only [exec, execWindowExpiry, hm]
  rw [if_pos ⟨hid, hseq⟩]

theorem exec_windowExpiry_other {s : State} {id : SensorId} {seq : BitVec 4}
    (h : ∀ e rest, s.merge = e :: rest → ¬ (e.id = id ∧ e.seq = seq)) :
    exec (.windowExpiry id seq) s = .next s := by
  cases hm : s.merge with
  | nil => simp only [exec, execWindowExpiry, hm]
  | cons e rest =>
    simp only [exec, execWindowExpiry, hm]
    rw [if_neg (h e rest hm)]

/-- WINDOW_EXPIRY leaves the Merge Buffer as it was or without its oldest entry. -/
theorem exec_windowExpiry_reception (id : SensorId) (seq : BitVec 4) (s : State) : ∃ t : State,
    exec (.windowExpiry id seq) s = .next t ∧
      (t.reception = s.reception ∨ t.reception = { s.reception with merge := s.merge.tail }) := by
  by_cases h : ∃ e rest, s.merge = e :: rest ∧ e.id = id ∧ e.seq = seq
  · obtain ⟨e, rest, hm, hid, hseq⟩ := h
    refine ⟨_, exec_windowExpiry_oldest hm hid hseq, .inr ?_⟩
    rw [State.reception_deliver, hm]
    rfl
  · exact ⟨s, exec_windowExpiry_other fun e rest hm hkey => h ⟨e, rest, hm, hkey⟩, .inl rfl⟩

/-- A line with its four error counts at 0 (R16). -/
def Line.countsCleared (x : Line) : Line := { x with framing := 0, check := 0, crc := 0, ident := 0 }

/-- READ LINE STATUS leaves the reception side as it was or with one line's error counts cleared. -/
theorem exec_readLineStatus_reception (r : Request) (s : State) : ∃ t : State,
    exec (.readLineStatus r) s = .next t ∧
      (t.reception = s.reception ∨ ∃ i, t.reception = (s.setLine i (s.line i).countsCleared).reception) := by
  refine ⟨_, rfl, ?_⟩
  obtain h | ⟨o, h⟩ | ⟨-, ⟨i, clear⟩, -, h⟩ :=
    s.request_cases (α := Fin 4 × Bool) r codeReadLineStatus _ _
  · exact .inl (by rw [h])
  · exact .inl (by rw [h, State.reception_refuse])
  · rw [h, State.reception_answer]
    cases clear with
    | false => exact .inl rfl
    | true => exact .inr ⟨i, rfl⟩

/-- Settles O2: all but six commands by `exec_reception`, those by what each leaves. -/
theorem everyCommandCompletes : Obligations.EveryCommandCompletes := by
  intro c s hw
  by_cases hmoves : movesReception c = true
  · cases c with
    | deviceReset straps cut => exact ⟨_, rfl, rfl⟩
    | endOfStarting =>
      obtain ⟨t, ht, hreception⟩ := exec_endOfStarting_reception s
      exact ⟨t, ht, congrArg Reception.pending hreception⟩
    | receivedByte i stopHigh v =>
      by_cases htaken : stopHigh = true ∧ s.phase = .running
      · obtain ⟨rfl, hp⟩ := htaken
        obtain ⟨y, merge, -, hreception⟩ := s.reception_takeByte i v
        exact ⟨_, exec_receivedByte_running hp i v, congrArg Reception.pending hreception⟩
      · exact ⟨s, exec_receivedByte_discarded htaken, rfl⟩
    | gapExpiry run =>
      by_cases hgoes : (s.line run.line).gapTimer ≠ none ∧ run.number = (s.line run.line).gapRuns
      · obtain ⟨ht, hn⟩ := hgoes
        exact ⟨_, exec_gapExpiry_goesOn ht hn, rfl⟩
      · rw [not_and_or, not_not] at hgoes
        exact ⟨s, exec_gapExpiry_over hgoes, rfl⟩
    | windowExpiry id seq =>
      obtain ⟨t, ht, hreception | hreception⟩ := exec_windowExpiry_reception id seq s <;>
        exact ⟨t, ht, congrArg Reception.pending hreception⟩
    | readLineStatus r =>
      obtain ⟨t, ht, hreception | ⟨i, hreception⟩⟩ := exec_readLineStatus_reception r s <;>
        exact ⟨t, ht, congrArg Reception.pending hreception⟩
    | _ => cases hmoves
  · obtain ⟨t, ht, hreception⟩ := exec_reception hw (Bool.not_eq_true _ ▸ hmoves) s
    exact ⟨t, ht, congrArg Reception.pending hreception⟩

/-! ### The laws of the lines and of the Merge Buffer through a step -/

theorem exec_unknownRequest_known {code : Byte} (h : namesRequest code = true) (r : Request) (s : State) :
    exec (.unknownRequest code r) s = .refused (.codeNamesARequest code) := if_pos h

/-- Only a term that is a command answers a next state, but for the expiry of a window whose ID is invalid. -/
theorem wellFormed_of_exec_next {c : Instr} {s t : State} (hc : movesReception c = false)
    (h : exec c s = .next t) : c.wellFormed = true := by
  cases c with
  | windowExpiry id seq => cases hc
  | unknownRequest code r =>
    cases hcode : namesRequest code with
    | false => rw [Instr.wellFormed, hcode]; rfl
    | true => rw [exec_unknownRequest_known hcode] at h; cases h
  | _ => rfl

/-- The laws of the lines and of the Merge Buffer together. -/
def State.ReceptionLaws (s : State) : Prop := s.LinesLaw ∧ s.MergeLaw

theorem State.LinesLaw.of_lines {s t : State} (hs : s.LinesLaw) (hl : t.lines = s.lines)
    (hp : t.phase = .starting → s.phase = .starting) : t.LinesLaw := fun i => by
  obtain ⟨hlawful, hhunt⟩ := hs i
  rw [State.line_congr hl i]
  exact ⟨hlawful, fun h => hhunt (hp h)⟩

/-- One line moved on: the law holds where the new line is lawful, and in HUNT while STARTING. -/
theorem State.LinesLaw.setLine {s : State} (hs : s.LinesLaw) (i : Fin 4) {y : Line} (hy : y.Lawful)
    (hhunt : s.phase = .starting → y.assembly = .hunt) : (s.setLine i y).LinesLaw := fun j => by
  rw [State.line_setLine]
  split
  · exact ⟨hy, hhunt⟩
  · exact hs j

theorem State.ReceptionLaws.of_reception {s t : State} (hs : s.ReceptionLaws) (h : t.reception = s.reception) :
    t.ReceptionLaws := by
  obtain ⟨-, hphase, hlines, hmerge⟩ := State.reception_eq_iff.1 h
  exact ⟨hs.1.of_lines hlines (hphase ▸ id), hs.2.of_merge hmerge⟩

theorem State.ReceptionLaws.takeByte {s : State} (hs : s.ReceptionLaws) (hp : s.phase = .running) (i : Fin 4)
    (v : Byte) : (s.takeByte i v).ReceptionLaws := by
  obtain ⟨hlines, hmerge⟩ := hs
  obtain ⟨y, hbyte, hy⟩ := s.takeByte_cases i v
  have hset : (s.setLine i y).LinesLaw :=
    hlines.setLine i (hy.lawful (hlines i).1) fun h => absurd (hp.symm.trans h) (by decide)
  obtain hline | ⟨c, hc, hcopy⟩ := hbyte
  · rw [hline]
    exact ⟨hset, hmerge.of_merge rfl⟩
  · rw [hcopy]
    have hreception := (s.setLine i y).reception_takeCopy c
    have hsetMerge : (s.setLine i y).MergeLaw := hmerge.of_merge rfl
    refine ⟨hset.of_lines (congrArg Reception.lines hreception) fun h => ?_, hsetMerge.takeCopy hc⟩
    exact (congrArg Reception.phase hreception).symm.trans h

/-- The buffer without its oldest entry is lawful. -/
theorem State.MergeLaw.of_tail {s t : State} (hs : s.MergeLaw) (h : t.merge = s.merge.tail) : t.MergeLaw where
  room := by rw [h, List.length_tail]; exact (Nat.sub_le _ _).trans hs.room
  keys := h ▸ hs.keys.sublist s.merge.tail_sublist
  entries e he := hs.entries e (List.mem_of_mem_tail (h ▸ he))

theorem State.ReceptionLaws.exec {s t : State} (hs : s.ReceptionLaws) {c : Instr}
    (h : Machine.exec c s = .next t) : t.ReceptionLaws := by
  by_cases hmoves : movesReception c = true
  · cases c with
    | deviceReset straps cut =>
      cases h
      refine ⟨fun i => ?_, ⟨Nat.zero_le _, .nil, nofun⟩⟩
      simp only [State.line, Vector.getElem_map]
      exact ⟨Line.restart_lawful _, fun _ => rfl⟩
    | endOfStarting =>
      obtain ⟨u, hu, hreception⟩ := exec_endOfStarting_reception s
      cases hu.symm.trans h
      have hphase : t.phase = .running := congrArg Reception.phase hreception
      exact ⟨hs.1.of_lines (congrArg Reception.lines hreception)
          fun hp => absurd (hphase.symm.trans hp) (by decide),
        hs.2.of_merge (congrArg Reception.merge hreception)⟩
    | receivedByte i stopHigh v =>
      by_cases htaken : stopHigh = true ∧ s.phase = .running
      · obtain ⟨rfl, hp⟩ := htaken
        cases (exec_receivedByte_running hp i v).symm.trans h
        exact hs.takeByte hp i v
      · cases (exec_receivedByte_discarded htaken).symm.trans h
        exact hs
    | gapExpiry run =>
      by_cases hgoes : (s.line run.line).gapTimer ≠ none ∧ run.number = (s.line run.line).gapRuns
      · obtain ⟨ht, hn⟩ := hgoes
        cases (exec_gapExpiry_goesOn ht hn).symm.trans h
        exact ⟨hs.1.setLine run.line (Line.abandon_lawful _) fun _ => rfl, hs.2.of_merge rfl⟩
      · rw [not_and_or, not_not] at hgoes
        cases (exec_gapExpiry_over hgoes).symm.trans h
        exact hs
    | windowExpiry sensor seq =>
      obtain ⟨u, hu, hreception | hreception⟩ := exec_windowExpiry_reception sensor seq s
      · cases hu.symm.trans h
        exact hs.of_reception hreception
      · cases hu.symm.trans h
        have hphase : t.phase = s.phase := congrArg Reception.phase hreception
        exact ⟨hs.1.of_lines (congrArg Reception.lines hreception) (hphase ▸ id),
          hs.2.of_tail (congrArg Reception.merge hreception)⟩
    | readLineStatus r =>
      obtain ⟨u, hu, hreception | ⟨i, hreception⟩⟩ := exec_readLineStatus_reception r s
      · cases hu.symm.trans h
        exact hs.of_reception hreception
      · cases hu.symm.trans h
        obtain ⟨⟨htimer, hstore, hshort⟩, hhunt⟩ := hs.1 i
        have hcleared : (s.setLine i (s.line i).countsCleared).ReceptionLaws :=
          ⟨hs.1.setLine i ⟨htimer, hstore, hshort⟩ hhunt, hs.2.of_merge rfl⟩
        exact hcleared.of_reception hreception
    | _ => cases hmoves
  · have hkeeps : movesReception c = false := Bool.not_eq_true _ ▸ hmoves
    obtain ⟨u, hu, hreception⟩ := exec_reception (wellFormed_of_exec_next hkeeps h) hkeeps s
    cases hu.symm.trans h
    exact hs.of_reception hreception

theorem step_of_pending_eq {s : State} {c : Instr} {rest : List Instr} (h : s.pending = c :: rest) :
    step s = exec c { s with pending := rest } := by
  rw [← step_of_pending_cons, ← h]

/-- The passing of time leaves lines, Merge Buffer and phase alone. -/
theorem State.idle_frame (s : State) : s.idle = { s with tick := s.idle.tick, pending := s.idle.pending } := by
  by_cases h : s.dueEvents = []
  · rw [State.idle_of_noneDue h]
  · rw [State.idle_of_due h]

/-- Settles O50: time leaves the reception side alone, and every command keeps the two laws. -/
theorem stepKeepsLinesAndMergeLaws : Obligations.StepKeepsLinesAndMergeLaws := by
  intro s t hlines hmerge hstep
  cases hpending : s.pending with
  | nil =>
    obtain rfl : s.idle = t := Host.Outcome.next.inj ((step_of_pending_nil hpending).symm.trans hstep)
    rw [State.idle_frame]
    exact ⟨hlines.of_lines rfl id, hmerge.of_merge rfl⟩
  | cons c rest =>
    have hrest : ({ s with pending := rest } : State).ReceptionLaws :=
      ⟨hlines.of_lines rfl id, hmerge.of_merge rfl⟩
    exact hrest.exec ((step_of_pending_eq hpending).symm.trans hstep)

/-! ### The expiries of a gap timer and of a window (R8, R25) -/

theorem State.takeByte_pending (s : State) (i : Fin 4) (v : Byte) : (s.takeByte i v).pending = s.pending := by
  obtain ⟨_, _, -, hreception⟩ := s.reception_takeByte i v
  exact congrArg Reception.pending hreception

/-- The byte first: taken in a frame it ends the run of its line's gap timer, so that the expiry of that run, next in
the queue, has no effect (R8, log 33). -/
theorem step_expiry_after_byte {s u : State} {i : Fin 4} {v : Byte} {rest : List Instr}
    (ha : (s.line i).assembly ≠ .hunt)
    (hpending : s.pending = .gapExpiry { line := i, number := (s.line i).gapRuns } :: rest)
    (hstep : step (s.takeByte i v) = .next u) : u = { s.takeByte i v with pending := rest } := by
  obtain ⟨y, merge, hy, hreception⟩ := s.reception_takeByte i v
  have hline : ({ s.takeByte i v with pending := rest } : State).line i = y :=
    (State.line_congr (congrArg Reception.lines hreception) i).trans (s.line_setLine_same i y)
  have hover : y.gapTimer = none ∨ (s.line i).gapRuns ≠ y.gapRuns := (hy.run ha).imp_right fun h => by omega
  rw [step_of_pending_eq ((s.takeByte_pending i v).trans hpending), exec_gapExpiry_over (hline ▸ hover)] at hstep
  exact (Host.Outcome.next.inj hstep).symm

/-- A byte that does not complete a frame and is taken to be part of one starts a run of its line's gap timer: SYNC
in HUNT, LEN or SYNC in LENGTH, any byte but the last in BODY (R5 to R8). -/
theorem State.takeByte_startsRun {s : State} {i : Fin 4} {v : Byte}
    (h : (s.line i).assembly = .hunt ∧ v = 0x7E#8 ∨
      (s.line i).assembly = .length ∧ (v = 0x0C#8 ∨ v = 0x7E#8) ∨
      (s.line i).assembly = .body ∧ (s.line i).store.length + 1 < 12) :
    ∃ assembly store, s.takeByte i v =
      s.setLine i ({ s.line i with assembly := assembly, store := store }.startGap s.tick) := by
  obtain ⟨ha, hv⟩ | ⟨ha, hv | hv⟩ | ⟨ha, hroom⟩ := h
  · exact ⟨_, _, State.takeByte_hunt_sync ha hv⟩
  · exact ⟨_, _, State.takeByte_length_len ha hv⟩
  · exact ⟨_, _, State.takeByte_length_sync ha hv⟩
  · exact ⟨_, _, State.takeByte_body_stored ha hroom⟩

/-- A byte that leaves its line in BODY: LEN in LENGTH, any byte but the last in BODY (R6, R7). -/
theorem State.takeByte_intoBody {s : State} {i : Fin 4} {v : Byte}
    (h : (s.line i).assembly = .length ∧ v = 0x0C#8 ∨
      (s.line i).assembly = .body ∧ (s.line i).store.length + 1 < 12) :
    ∃ store, s.takeByte i v =
      s.setLine i ({ s.line i with assembly := .body, store := store }.startGap s.tick) := by
  obtain ⟨ha, hv⟩ | ⟨ha, hroom⟩ := h
  · exact ⟨_, State.takeByte_length_len ha hv⟩
  · exact ⟨_, by rw [State.takeByte_body_stored ha hroom, ← ha]⟩

/-- The expiry of the run that a byte starts, waiting behind that byte, abandons the frame (R8). -/
theorem step_expiry_of_startedRun {s u : State} {i : Fin 4} {x : Line} {rest : List Instr}
    (hpending : s.pending = .gapExpiry { line := i, number := x.gapRuns + 1 } :: rest)
    (hstep : step (s.setLine i (x.startGap s.tick)) = .next u) : u.line i = (x.startGap s.tick).abandon := by
  have hline : ({ s.setLine i (x.startGap s.tick) with pending := rest } : State).line i = x.startGap s.tick :=
    s.line_setLine_same i _
  rw [step_of_pending_eq (s := s.setLine i (x.startGap s.tick)) hpending,
    exec_gapExpiry_goesOn (by rw [hline]; nofun) (by rw [hline]; rfl)] at hstep
  rw [← Host.Outcome.next.inj hstep, State.line_setLine_same, hline]

/-- The expiry first: the byte behind it finds its line in HUNT (R5, R8). -/
theorem step_byte_after_abandon {s u : State} {i : Fin 4} {v : Byte} {rest : List Instr} (hp : s.phase = .running)
    (hpending : s.pending = .receivedByte i true v :: rest)
    (hstep : step (s.setLine i (s.line i).abandon) = .next u) :
    u.line i = if v = 0x7E#8 then
      { (s.line i).abandon with
        assembly := .length, store := [], gapTimer := some s.tick, gapRuns := (s.line i).gapRuns + 1 }
      else (s.line i).abandon := by
  have hline : ({ s.setLine i (s.line i).abandon with pending := rest } : State).line i = (s.line i).abandon :=
    s.line_setLine_same i _
  have hhunt : (({ s.setLine i (s.line i).abandon with pending := rest } : State).line i).assembly = .hunt := by
    rw [hline]; rfl
  rw [step_of_pending_eq (s := s.setLine i (s.line i).abandon) hpending,
    exec_receivedByte_running (s := { s.setLine i (s.line i).abandon with pending := rest }) hp] at hstep
  rw [← Host.Outcome.next.inj hstep]
  by_cases hv : v = 0x7E#8
  · rw [if_pos hv, State.takeByte_hunt_sync hhunt hv, State.line_setLine_same, hline]
    rfl
  · rw [if_neg hv, State.takeByte_hunt_other hhunt hv, hline]

/-- Settles O11: the two expiries by their equations, byte and expiry by the three lemmas on their orders. -/
theorem gapAndWindowExpiries : Obligations.GapAndWindowExpiries := by
  refine ⟨fun i n s => ⟨fun ht hn => ?_, exec_gapExpiry_over⟩, ?_, fun id seq s =>
    ⟨fun e rest hm hid hseq => exec_windowExpiry_oldest hm hid hseq, exec_windowExpiry_other⟩⟩
  · rw [exec_gapExpiry_goesOn ht hn, Line.abandon_eq]
  intro i v rest now next framing s t u hp hnow hnext hframing hfirst hsecond
  have hbyte : ∀ waiting, s.pending = .receivedByte i true v :: waiting →
      t = ({ s with pending := waiting } : State).takeByte i v := by
    intro waiting hpending
    rw [step_of_pending_eq hpending, exec_receivedByte_running (s := { s with pending := waiting }) hp] at hfirst
    exact (Host.Outcome.next.inj hfirst).symm
  have habandon : ∀ x : Line, x.framing = (s.line i).framing →
      x.abandon = { x with assembly := .hunt, store := [], gapTimer := none, framing := framing } := by
    intro x hx
    rw [Line.abandon_eq, hframing, hx]
  refine ⟨fun hpending ha => ?_, fun hpending hstarts => ?_, fun hpending ht => ?_⟩
  · have ht := hbyte _ hpending
    have hu : u = { t with pending := rest } := by
      rw [ht] at hsecond ⊢
      exact step_expiry_after_byte (s := { s with pending := now :: rest }) ha (by rw [hnow]; rfl) hsecond
    refine ⟨hu, fun hbody => ?_⟩
    obtain ⟨store, htaken⟩ := State.takeByte_intoBody (s := { s with pending := now :: rest }) hbody
    have hline : u.line i = { s.line i with assembly := .body, store := store }.startGap s.tick := by
      rw [hu, ht, htaken]
      exact State.line_setLine_same _ i _
    rw [hline]
    exact ⟨rfl, rfl, rfl⟩
  · obtain ⟨assembly, store, htaken⟩ := State.takeByte_startsRun (s := { s with pending := next :: rest }) hstarts
    rw [hbyte _ hpending, htaken] at hsecond
    exact (step_expiry_of_startedRun (s := { s with pending := next :: rest }) (rest := rest)
      (by rw [hnext]; rfl) hsecond).trans (habandon _ rfl)
  · have hgoes : exec now { s with pending := .receivedByte i true v :: rest } =
        .next (({ s with pending := .receivedByte i true v :: rest } : State).setLine i (s.line i).abandon) := by
      rw [hnow]
      exact exec_gapExpiry_goesOn (s := { s with pending := .receivedByte i true v :: rest }) ht rfl
    rw [step_of_pending_eq hpending, hgoes] at hfirst
    rw [← Host.Outcome.next.inj hfirst] at hsecond
    rw [step_byte_after_abandon (s := { s with pending := .receivedByte i true v :: rest }) hp rfl hsecond]
    exact congrArg₂ (ite (v = 0x7E#8))
      (congrArg (fun x : Line => { x with
        assembly := .length, store := [], gapTimer := some s.tick, gapRuns := (s.line i).gapRuns + 1 })
        (habandon _ rfl)) (habandon _ rfl)

/-! ### Reset (chapter 10) -/

@[simp] theorem State.pos_reset (p : Pos) : State.reset.pos p = Position.empty := by
  simp only [State.pos, State.reset, Vector.getElem_replicate]

@[simp] theorem State.axle_reset (a : AxleNo) : State.reset.axle a = Axle.factory := by
  simp only [State.axle, State.reset, Vector.getElem_replicate]

@[simp] theorem State.line_reset (i : Fin 4) : State.reset.line i = Line.atReset := by
  simp only [State.line, State.reset, Vector.getElem_replicate]

theorem State.profile_reset (i : ProfileNo) :
    State.reset.profile i = if 1 = i.val then Profile.tipping else Profile.default := by
  simp only [State.profile, State.reset, factoryProfiles, Vector.getElem_set, Vector.getElem_replicate]

@[simp] theorem State.port_reset (p : Port) : State.reset.port p = PortCtl.atReset := PerPort.get_both _ p

/-- An UNASSIGNED position whose fields are all empty meets the law of its state (R33, R34). -/
theorem Position.lawful_of_empty : Position.empty.Lawful where
  unassigned _ := rfl
  assigned h := absurd rfl h
  deadline := by decide
  held := by decide
  before := .inl rfl
  remaining := by decide
  quiet _ _ := rfl
  frozen h := nomatch h
  alive _ := hasKind_zero _
  sampled := by decide

theorem Profile.default_lawful : Profile.default.Lawful :=
  ⟨by decide, by decide, by decide, by decide, by decide, by decide, by decide, by decide, by decide⟩

theorem Profile.tipping_lawful : Profile.tipping.Lawful :=
  ⟨by decide, by decide, by decide, by decide, by decide, by decide, by decide, by decide, by decide⟩

theorem reset_linesLaw : State.reset.LinesLaw := fun i => by
  rw [State.line_reset]
  exact ⟨Line.lawful_of_hunt rfl rfl rfl, fun _ => rfl⟩

theorem reset_mergeLaw : State.reset.MergeLaw := ⟨Nat.zero_le _, .nil, nofun⟩

theorem reset_foreignLaw : State.reset.ForeignLaw := ⟨Nat.zero_le _, .nil, nofun, nofun⟩

theorem reset_identityLaw : State.reset.IdentityLaw where
  valid p id h := by rw [State.pos_reset] at h; cases h
  present p h := by rw [State.pos_reset] at h; cases h
  distinct p q id h := by rw [State.pos_reset] at h; cases h

theorem reset_positionLaw : State.reset.PositionLaw where
  lawful p := by rw [State.pos_reset]; exact Position.lawful_of_empty
  detached p := by
    rw [State.pos_reset]
    exact ⟨nofun, fun ⟨_, hsensor, _⟩ => nomatch hsensor⟩

theorem reset_captureLaw : State.reset.CaptureLaw := fun p port => by
  rw [State.pos_reset]
  cases port <;> decide

theorem reset_lampLaw : State.reset.LampLaw := ⟨by decide, nofun, fun _ => rfl⟩

theorem reset_stackLaw : State.reset.StackLaw := ⟨by decide, nofun⟩

theorem reset_rangeLaw : State.reset.RangeLaw where
  axles a := by rw [State.axle_reset]; exact ⟨by decide, by decide⟩
  profiles i := by
    rw [State.profile_reset]
    split
    · exact Profile.tipping_lawful
    · exact Profile.default_lawful
  settings := ⟨by decide, by decide, by decide, by decide, by decide⟩
  context := ⟨by decide, by decide⟩

theorem reset_liftLaw : State.reset.LiftLaw :=
  have hnone : ∀ a, State.reset.lifted a = false := by decide
  ⟨fun a h => absurd h (by rw [hnone a]; decide), fun _ => hnone⟩

theorem reset_teachLaw : State.reset.TeachLaw := ⟨nofun, fun _ => rfl⟩

theorem reset_grantLaw : State.reset.GrantLaw where
  once := .nil
  holder := nofun
  free _ := rfl
  marks _ := rfl
  timer := ⟨nofun, fun ⟨⟨_, h⟩, _⟩ => nomatch h⟩
  owner := nofun
  saving := by decide
  starting _ := rfl

theorem reset_portsLaw : State.reset.PortsLaw := fun port => by
  rw [State.port_reset]
  exact ⟨by decide, by decide, by decide, fun h => absurd rfl h⟩

/-- Settles O3, law by law. -/
theorem resetMeetsEveryLaw : Obligations.ResetMeetsEveryLaw :=
  ⟨reset_linesLaw, reset_mergeLaw, reset_foreignLaw, reset_identityLaw, reset_positionLaw, reset_captureLaw,
    reset_lampLaw, reset_stackLaw, reset_rangeLaw, reset_liftLaw, reset_teachLaw, reset_grantLaw, reset_portsLaw⟩

/-! ### DEVICE_RESET (R160, R164) -/

theorem State.storeAfterCut_idle {s : State} (cut : SaveCut) (h : s.phase = .starting ∨ s.grant.state ≠ .saving) :
    s.storeAfterCut cut = s.store := by
  refine if_neg fun hsaving => ?_
  obtain ⟨hp, hg⟩ := hsaving
  obtain hstarting | hother := h
  · exact absurd (hp.symm.trans hstarting) (by decide)
  · exact hother hg

theorem State.storeAfterCut_saving {s : State} {n : SectionName} {rest : List SectionName} (cut : SaveCut)
    (hp : s.phase = .running) (hg : s.grant.state = .saving) (hn : s.grant.toSave = n :: rest) :
    s.storeAfterCut cut = s.store.set n (cutSection n (s.store.get n) (s.sectionImage n) cut) := by
  simp only [State.storeAfterCut, hp, hg, hn, and_self, if_true]

theorem crc_sealed (image : List Byte) : (sealed image).crc = crc16 (sealed image).image := rfl

/-- A section is written with the CRC of its image (R158). -/
theorem State.crc_sectionImage (s : State) (n : SectionName) :
    (s.sectionImage n).crc = crc16 (s.sectionImage n).image := by
  cases n with
  | t => exact crc_sealed _
  | l => exact crc_sealed _
  | p => exact crc_sealed _

theorem word_ne_not (x : Word16) : x ≠ ~~~ x := fun h => by
  have hnat := congrArg BitVec.toNat h
  rw [BitVec.toNat_not] at hnat
  omega

/-- The state in which DEVICE_RESET leaves the part. -/
def State.restarted (s : State) (straps : BitVec 2) (cut : SaveCut) : State :=
  { State.reset with
    pending := s.pending, straps := straps, trl := s.trl, body := s.body
    lines := s.lines.map Line.restart, store := s.storeAfterCut cut }

theorem exec_deviceReset (straps : BitVec 2) (cut : SaveCut) (s : State) :
    exec (.deviceReset straps cut) s = .next (s.restarted straps cut) := rfl

@[simp] theorem State.line_restarted (s : State) (straps : BitVec 2) (cut : SaveCut) (i : Fin 4) :
    (s.restarted straps cut).line i = (s.line i).restart := by
  simp only [State.line, State.restarted, Vector.getElem_map]

@[simp] theorem State.store_restarted (s : State) (straps : BitVec 2) (cut : SaveCut) :
    (s.restarted straps cut).store = s.storeAfterCut cut := rfl

theorem erasedSection_marker (n : SectionName) : (erasedSection n).marker ≠ 0xA5#8 := by
  cases n with
  | t => decide
  | l => decide
  | p => decide

/-- Settles O4: the fields by the definition, the store by the cut's four cases. -/
theorem deviceResetRestartsAndKeepsStore : Obligations.DeviceResetRestartsAndKeepsStore := by
  intro straps cut s
  refine ⟨s.restarted straps cut, exec_deviceReset straps cut s, ?_, fun i => s.line_restarted straps cut i,
    State.storeAfterCut_idle cut, fun n rest hp hg hn => ?_⟩
  · simp only [State.restarted]
  · rw [State.store_restarted, State.storeAfterCut_saving cut hp hg hn]
    refine ⟨fun m hm => PerSection.get_set_ne s.store _ hm, ?_, ?_, ?_, ?_⟩
    · rintro rfl
      exact s.store.set_get n
    · rintro rfl
      rw [PerSection.get_set_same]
      exact erasedSection_marker n
    · rintro rfl
      exact s.store.get_set_same n _
    · rintro rfl
      rw [PerSection.get_set_same]
      simp only [cutSection, ← s.crc_sectionImage]
      exact word_ne_not _

/-! ### READ FOREIGN, READ LINE STATUS, READ STATUS and unknown codes (R16, R47, R166, R170) -/

/-! The flag fields of the answers as sums of one number each. -/

theorem mul_bitOf (n : Nat) (b : Bool) : n * bitOf b = if b = true then n else 0 := by
  cases b with
  | false => rfl
  | true => exact Nat.mul_one n

theorem bitOf_eq_ite (b : Bool) : bitOf b = if b = true then 1 else 0 := rfl

theorem ite_notActive (n : Nat) (m : PortMode) :
    (if (m != .active) = true then n else 0) = if m = .active then 0 else n := by
  by_cases h : m = .active
  · rw [if_pos h, h]; rfl
  · rw [if_neg h, if_pos (bne_iff_ne.2 h)]

theorem mul_waiterCode (n : Nat) (w : Option Port) :
    n * (w.map portCode).getD 0 = if w = some .b then n else 0 := by
  match w with
  | none => rfl
  | some .a => rfl
  | some .b => exact Nat.mul_one n

theorem byteOf_bitOf (b : Bool) : byteOf (bitOf b) = if b = true then 1 else 0 := by
  cases b with
  | false => rfl
  | true => rfl

theorem statusBytes1_eq (s : State) (port : Port) : statusBytes1 s port =
    [0, 0x70#8 + s.straps.setWidth 8, byteOf (s.port port).errors,
      byteOf ((if (s.port port).overflow = true then 1 else 0) + (if (s.port port.other).mode = .active then 0 else 2) +
        (if (s.port port.other).overflow = true then 4 else 0) + (if s.trailerPresent = true then 8 else 0)),
      s.warn.level.code] := by
  simp only [statusBytes1, bitOf_eq_ite (s.port port).overflow, mul_bitOf, ite_notActive]
  rfl

theorem statusBytes2_eq (s : State) : statusBytes2 s =
    [s.grant.state.code, byteOf (s.grant.waiting.length + (if s.grant.waiting[0]? = some .b then 4 else 0) +
        (if s.grant.waiting[1]? = some .b then 8 else 0)),
      if s.grant.truckLock = true then 1 else 0] ++ be16 s.grant.revision.toNat := by
  simp only [statusBytes2, mul_waiterCode, byteOf_bitOf]

section Served

variable {r : Request} {s : State}

theorem foreignOperand_eq {i : Nat} (hi : byteAt r 0 = some i) (hlt : i < 8) :
    (byteAt r 0).bind (inRange 0 7) = some i := by
  rw [hi, Option.bind_some, inRange, if_pos ⟨Nat.zero_le i, Nat.le_of_lt_succ hlt⟩]

theorem exec_readForeign_entry (hserved : s.serves r) {i : Nat} {e : ForeignEntry} (hi : byteAt r 0 = some i)
    (hlt : i < 8) (he : s.foreign[i]? = some e) :
    exec (.readForeign r) s = .next (s.answer r codeReadForeign
      [[byteOf (16 * e.lineMask.toNat + 8 * bitOf e.motionSeen + (s.foreign.length - 1))] ++ be32 e.id ++
        [byteOf e.hits, e.rssi, byteOf (min 255 (keptSpan e.tick s.tick / 10))]]) := by
  simp only [exec, execReadForeign, foreignOperand_eq hi hlt, State.request_served codeReadForeign i _ hserved, he]

theorem exec_readForeign_missing (hserved : s.serves r) {i : Nat} (hi : byteAt r 0 = some i) (hlt : i < 8)
    (hlen : s.foreign.length ≤ i) :
    exec (.readForeign r) s = .next (s.refuse r codeReadForeign .notFound) := by
  simp only [exec, execReadForeign, foreignOperand_eq hi hlt, State.request_served codeReadForeign i _ hserved,
    List.getElem?_eq_none hlen]

/-- READ LINE STATUS sends the four counts of the line named as they stood, and clears them where bit 0 of its
second byte says so (R16). -/
theorem exec_readLineStatus_served (hserved : s.serves r) {i : Fin 4} {clear : Nat}
    (hi : byteAt r 0 = some i.val) (hclear : byteAt r 1 = some clear) :
    exec (.readLineStatus r) s = .next (State.answer
      (if clear.testBit 0 then s.setLine i (s.line i).countsCleared else s) r codeReadLineStatus
      [be16 (s.line i).framing.toNat ++ be16 (s.line i).check.toNat ++ be16 (s.line i).crc.toNat ++
        be16 (s.line i).ident.toNat]) := by
  have hline : (byteAt r 0).bind fourOfCode = some i := by
    rw [hi, Option.bind_some, fourOfCode, dif_pos i.isLt]
  simp only [exec, execReadLineStatus, hline, hclear]
  rw [State.request_served codeReadLineStatus _ _ hserved]
  rfl

/-- READ STATUS sends four frames and clears the asking port's overflow flag (R170, R174). -/
theorem exec_readStatus_served (hserved : s.serves r) :
    exec (.readStatus r) s = .next ((s.setPort r.port { s.port r.port with overflow := false }).answer r codeReadStatus
      [statusBytes1 s r.port, statusBytes2 s, statusBytes3 s, statusBytes4 s]) :=
  congrArg Host.Outcome.next (State.request_served codeReadStatus () _ hserved)

end Served

/-- Settles O36: each request served, its fields by the equations above. -/
theorem statusReadsAnswer : Obligations.StatusReadsAnswer := by
  intro r s hserved
  refine ⟨fun i e hi hlt he => ?_, fun i hi hlt hlen => ?_, fun i clear hi hclear => ?_, ?_, fun code hcode => ?_⟩
  · rw [exec_readForeign_entry hserved hi hlt he, mul_bitOf]
    rfl
  · rw [exec_readForeign_missing hserved hi hlt hlen]
    rfl
  · rw [exec_readLineStatus_served hserved hi hclear]
    simp only [Nat.testBit_zero, decide_eq_true_eq]
    rfl
  · rw [exec_readStatus_served hserved, statusBytes1_eq, statusBytes2_eq]
    simp only [statusBytes4, mul_bitOf, bitOf_eq_ite s.flags.p.defaulted]
    cases s.teach with
    | none => rfl
    | some t => rfl
  · have hunnamed : namesRequest code = false := by
      rw [← Bool.not_eq_true, namesRequest, List.contains_iff_mem]
      exact hcode
    have hforeign : code ≠ codeReadForeign := by
      rintro rfl
      exact hcode (by decide)
    rw [exec_unknownRequest hunnamed, State.request_invalid code _ hserved, State.refuse_of_ne s r _ hforeign]
    rfl

end Sys2Proof.Machine
end

section
/-! PROOF. Telegram merging: a copy joins the entry of its key, opens an entry or evicts the oldest one, and nothing
but a byte, the expiry of a window and a device reset changes the Merge Buffer: the statements O10, O12. -/

namespace Sys2Proof.Machine

/-! ### The three ways of a copy (R18 to R23) -/

/-- The buffer has at most one entry of a key. -/
theorem State.MergeLaw.eq_of_sameKey {s : State} (h : s.MergeLaw) {e f : MergeEntry} (he : e ∈ s.merge)
    (hf : f ∈ s.merge) (hid : f.id = e.id) (hseq : f.seq = e.seq) : f = e := by
  by_contra hne
  have : Std.Symm MergeEntry.keyDiffers := ⟨fun _ _ hdiff hsame => hdiff ⟨hsame.1.symm, hsame.2.symm⟩⟩
  exact h.keys.forall hf he hne ⟨hid, hseq⟩

/-- The copy count rises by one and stays at 16 (R19). -/
theorem min_copyCountMax {n : Nat} (h : n ≤ 16) :
    min Config.copyCountMax (n + 1) = if n = 16 then 16 else n + 1 := by
  simp only [Config.copyCountMax]
  split <;> omega

theorem joinEntry_eq {e : MergeEntry} (h : e.Lawful) (c : Copy) : joinEntry e c =
    { id := e.id, seq := e.seq, openingTick := e.openingTick
      content := if e.heard.bestRssi < c.rssi then c.content else e.content
      heard :=
        { bestRssi := if e.heard.bestRssi < c.rssi then c.rssi else e.heard.bestRssi
          bestLine := if e.heard.bestRssi < c.rssi then c.line else e.heard.bestLine
          lineMask := e.heard.lineMask ||| (1#4 <<< c.line.val)
          frameSet := e.heard.frameSet ||| (1#4 <<< c.frameIndex.toNat)
          copyCount := if e.heard.copyCount = 16 then 16 else e.heard.copyCount + 1
          conflict := e.heard.conflict || decide (c.content ≠ e.content) } } := by
  have hconflict : (c.content != e.content) = decide (c.content ≠ e.content) := (decide_not ..).symm
  rw [← min_copyCountMax h.count.2, ← hconflict]
  rfl

theorem State.takeCopy_join {s : State} (h : s.MergeLaw) {c : Copy} {e : MergeEntry} (he : e ∈ s.merge)
    (hid : e.id = c.id) (hseq : e.seq = c.seq) :
    s.takeCopy c = { s with merge := s.merge.map fun f =>
      if f.id = c.id ∧ f.seq = c.seq then joinEntry e c else f } := by
  have hany : s.merge.any (sameKey c) = true := List.any_eq_true.2 ⟨e, he, (sameKey_iff c e).2 ⟨hid, hseq⟩⟩
  have hmap : (s.merge.map fun f => if sameKey c f then joinEntry f c else f) =
      s.merge.map fun f => if f.id = c.id ∧ f.seq = c.seq then joinEntry e c else f := by
    refine List.map_congr_left fun f hf => ?_
    simp only [sameKey_iff]
    split
    · next hkey => rw [h.eq_of_sameKey he hf (hkey.1.trans hid.symm) (hkey.2.trans hseq.symm)]
    · rfl
  rw [State.takeCopy, if_pos hany, hmap]

section NewKey

variable {s : State} {c : Copy} (hnew : ∀ e ∈ s.merge, ¬ (e.id = c.id ∧ e.seq = c.seq))
include hnew

theorem State.not_any_sameKey : ¬ s.merge.any (sameKey c) = true := fun hany => by
  obtain ⟨e, he, hkey⟩ := List.any_eq_true.1 hany
  exact hnew e he ((sameKey_iff c e).1 hkey)

theorem State.takeCopy_open (hroom : s.merge.length < 12) :
    s.takeCopy c = { s with merge := s.merge ++ [openEntry c s.tick] } := by
  rw [State.takeCopy, if_neg (State.not_any_sameKey hnew)]
  exact if_pos hroom

/-- The oldest entry is delivered from a buffer that no longer holds it, and the delivery leaves the others alone. -/
theorem State.takeCopy_evict {e : MergeEntry} {rest : List MergeEntry} (hmerge : s.merge = e :: rest)
    (hfull : s.merge.length = 12) :
    s.takeCopy c = { ({ s with merge := rest } : State).deliver e.delivery with
      merge := rest ++ [openEntry c s.tick] } := by
  have hrest : (({ s with merge := rest } : State).deliver e.delivery).merge = rest :=
    congrArg Reception.merge (State.reception_deliver _ _)
  have hnoRoom : ¬ s.merge.length < Config.mergeCapacity := fun hlt => absurd hfull (Nat.ne_of_lt hlt)
  rw [State.takeCopy, if_neg (State.not_any_sameKey hnew), if_neg hnoRoom, hmerge]
  simp only [State.openWindow, hrest]

end NewKey

/-- Settles O10: one equation for each way of a copy, the joined entry field by field. -/
theorem copyJoinsOpensOrEvicts : Obligations.CopyJoinsOpensOrEvicts := by
  intro c s hlaw
  refine ⟨fun e he hid hseq => ?join, fun opened hopened hnew => ?new⟩
  case join =>
    rw [State.takeCopy_join hlaw he hid hseq, joinEntry_eq (hlaw.entries e he)]
  case new =>
    obtain rfl : opened = openEntry c s.tick := hopened
    exact ⟨State.takeCopy_open hnew, fun _ _ => State.takeCopy_evict hnew⟩

/-! ### The commands that leave the Merge Buffer alone (R29) -/

/-- A run of the gap timer that ends abandons a frame on its line; it touches no entry. -/
theorem exec_gapExpiry_merge (run : GapRun) (s : State) :
    ∃ t : State, exec (.gapExpiry run) s = .next t ∧ t.merge = s.merge := by
  by_cases hgoes : (s.line run.line).gapTimer ≠ none ∧ run.number = (s.line run.line).gapRuns
  · obtain ⟨htimer, hnumber⟩ := hgoes
    exact ⟨_, exec_gapExpiry_goesOn htimer hnumber, rfl⟩
  · rw [not_and_or, not_not] at hgoes
    exact ⟨s, exec_gapExpiry_over hgoes, rfl⟩

/-- Settles O12: of the six commands that move the reception side three change lines or the phase only, and the
others leave it whole. -/
theorem mergeBufferChangedByItsEventsOnly : Obligations.MergeBufferChangedByItsEventsOnly := by
  intro c s t h hbyte hwindow hreset
  suffices hkeeps : ∃ u : State, exec c s = .next u ∧ u.merge = s.merge by
    obtain ⟨u, hu, hmerge⟩ := hkeeps
    obtain rfl : u = t := Host.Outcome.next.inj (hu.symm.trans h)
    exact hmerge
  by_cases hmoves : movesReception c = true
  · cases c with
    | deviceReset straps cut => exact absurd rfl (hreset straps cut)
    | receivedByte i stopHigh v => exact absurd rfl (hbyte i stopHigh v)
    | windowExpiry id seq => exact absurd rfl (hwindow id seq)
    | endOfStarting =>
      obtain ⟨u, hu, hreception⟩ := exec_endOfStarting_reception s
      exact ⟨u, hu, congrArg Reception.merge hreception⟩
    | gapExpiry run => exact exec_gapExpiry_merge run s
    | readLineStatus r =>
      obtain ⟨u, hu, hreception | ⟨i, hreception⟩⟩ := exec_readLineStatus_reception r s
      · exact ⟨u, hu, congrArg Reception.merge hreception⟩
      · exact ⟨u, hu, congrArg Reception.merge hreception⟩
    | _ => cases hmoves
  · have hstays : movesReception c = false := Bool.not_eq_true _ ▸ hmoves
    obtain ⟨u, hu, hreception⟩ := exec_reception (wellFormed_of_exec_next hstays h) hstays s
    exact ⟨u, hu, congrArg Reception.merge hreception⟩

end Sys2Proof.Machine
end

section
/-! PROOF. The wheel table: what the commands leave of it and of the values stored beside it, what each operation does
to one position, and the statements O51, O52, O53, O56, O59, O5, O13, O14, O15, O25, O30, O38, O43, O44, O49, O24,
O35. -/

namespace Sys2Proof.Machine

/-! ### The wheel table and the values held beside it -/

/-- The wheel table, the Profile Unit, the settings and the vehicle context, with the phase: what all commands leave
alone but those that `movesHoldings` names. -/
structure Holdings where
  phase : Phase
  axles : Vector Axle 8
  positions : Vector Position 32
  foreign : List ForeignEntry
  trailerPresent : Bool
  context : Context
  profiles : Vector Profile 6
  stack : List StackEntry
  settings : Settings

def State.holdings (s : State) : Holdings :=
  { phase := s.phase, axles := s.axles, positions := s.positions, foreign := s.foreign
    trailerPresent := s.trailerPresent, context := s.context, profiles := s.profiles, stack := s.stack
    settings := s.settings }

theorem State.pos_congr {s t : State} (h : t.positions = s.positions) (p : Pos) : t.pos p = s.pos p := by
  simp only [State.pos, h]

theorem State.axle_congr {s t : State} (h : t.axles = s.axles) (a : AxleNo) : t.axle a = s.axle a := by
  simp only [State.axle, h]

theorem State.profile_congr {s t : State} (h : t.profiles = s.profiles) (i : ProfileNo) :
    t.profile i = s.profile i := by
  simp only [State.profile, h]

theorem State.posExists_congr {s t : State} (h : t.axles = s.axles) (p : Pos) : t.posExists p = s.posExists p := by
  simp only [State.posExists, State.axle_congr h]

/-! One lemma for each shared operation that moves none of it. -/

@[simp] theorem State.holdings_setPort (s : State) (p : Port) (c : PortCtl) :
    (s.setPort p c).holdings = s.holdings := rfl
@[simp] theorem State.holdings_setLine (s : State) (i : Fin 4) (x : Line) :
    (s.setLine i x).holdings = s.holdings := rfl
@[simp] theorem State.holdings_notice (s : State) (code : Byte) (data : List Byte) :
    (s.notice code data).holdings = s.holdings := rfl
@[simp] theorem State.holdings_answer (s : State) (r : Request) (code : Byte) (frames : List (List Byte)) :
    (s.answer r code frames).holdings = s.holdings := by
  rw [State.answer_eq]; simp only [State.holdings]
@[simp] theorem State.holdings_reply (s : State) (r : Request) (code : Byte) (o : Reply) :
    (s.reply r code o).holdings = s.holdings := s.holdings_answer r code _
@[simp] theorem State.holdings_refuse (s : State) (r : Request) (code : Byte) (o : Reply) :
    (s.refuse r code o).holdings = s.holdings := by
  obtain ⟨frames, h⟩ := s.refuse_is_answer r code o
  rw [h, State.holdings_answer]
@[simp] theorem State.holdings_recomputeWarn (s : State) : s.recomputeWarn.holdings = s.holdings := by
  rw [State.recomputeWarn_eq]; simp only [State.holdings]
@[simp] theorem State.holdings_refreshIdle (s : State) : s.refreshIdle.holdings = s.holdings := by
  rw [State.refreshIdle_eq]; simp only [State.holdings]
@[simp] theorem State.holdings_mark (s : State) (n : SectionName) : (s.mark n).holdings = s.holdings := rfl
@[simp] theorem State.holdings_endTeach (s : State) (o : TeachOutcome) :
    (s.endTeach o).holdings = s.holdings := by
  rw [State.endTeach_eq]; simp only [State.holdings]
@[simp] theorem State.holdings_removeFromTeach (s : State) (gone : Pos → Bool) (also : Bool) (o : TeachOutcome) :
    (s.removeFromTeach gone also o).holdings = s.holdings := by
  rw [State.removeFromTeach_eq]; simp only [State.holdings]
@[simp] theorem State.holdings_handover (s : State) : s.handover.holdings = s.holdings := by
  rw [State.handover_eq]; simp only [State.holdings]
@[simp] theorem State.holdings_endTenure (s : State) (p : Port) : (s.endTenure p).holdings = s.holdings := by
  rw [State.endTenure_eq]; simp only [State.holdings]
@[simp] theorem State.holdings_portReset (s : State) (p : Port) : (s.portReset p).holdings = s.holdings := by
  rw [State.portReset_eq]; simp only [State.holdings]
@[simp] theorem State.holdings_reportAxle (s : State) (p : Port) (a : AxleNo) :
    (s.reportAxle p a).holdings = s.holdings := by
  rw [State.reportAxle_eq]; simp only [State.holdings]
@[simp] theorem State.holdings_beginTenure (s : State) (p : Port) (waiting : List Port) :
    (s.beginTenure p waiting).holdings = s.holdings := rfl
@[simp] theorem State.holdings_stopWaiting (s : State) (p : Port) : (s.stopWaiting p).holdings = s.holdings := rfl
@[simp] theorem State.holdings_joinWaiting (s : State) (p : Port) : (s.joinWaiting p).holdings = s.holdings := by
  unfold State.joinWaiting; split <;> rfl

/-- A branch of an operation, each of whose ways moves none of it. -/
theorem holdings_ite {p : Prop} [Decidable p] {s t u : State} (ht : t.holdings = s.holdings)
    (hu : u.holdings = s.holdings) : (if p then t else u).holdings = s.holdings := by
  split
  · exact ht
  · exact hu

@[simp] theorem State.holdings_finishSection (s : State) (n : SectionName) (rest : List SectionName)
    (r : SaveResult) : (s.finishSection n rest r).holdings = s.holdings := by
  unfold State.finishSection; dsimp only
  have hwritten : ∀ u : State, u.holdings = s.holdings →
      (if rest.isEmpty then ({ u with grant := { u.grant with toSave := rest } } : State).handover
        else { u with grant := { u.grant with toSave := rest } }).holdings = s.holdings :=
    fun u hu => holdings_ite ((State.holdings_handover _).trans hu) hu
  cases r with
  | passedFirst => exact hwritten _ rfl
  | passedSecond => exact hwritten _ rfl
  | failedTwice => exact hwritten _ rfl

theorem State.holdings_request {α : Type} {s : State} {r : Request} {code : Byte} {ops : Option α}
    {own : α → State → State} (hown : ∀ x, (own x s).holdings = s.holdings) :
    (s.request r code ops own).holdings = s.holdings := by
  obtain h | ⟨o, h⟩ | ⟨-, x, -, h⟩ := s.request_cases r code ops own
  · rw [h]
  · rw [h, State.holdings_refuse]
  · rw [h, hown]

theorem State.holdings_edit {α : Type} {s : State} {r : Request} {code : Byte} {ops : Option α}
    {own : α → State → State} (hown : ∀ x, (own x s).holdings = s.holdings) :
    (s.edit r code ops own).holdings = s.holdings :=
  State.holdings_request fun x => holdings_ite (hown x) (s.holdings_refuse r code .noGrant)

/-! ### The commands that move none of it -/

/-- The commands that change a position, an axle, a foreign entry, trailer-present, the context, a profile, the stack,
a setting or the phase. -/
def movesHoldings : Instr → Bool
  | .deviceReset _ _ => true
  | .endOfStarting => true
  | .receivedByte _ _ _ => true
  | .windowExpiry _ _ => true
  | .deadlineExpiry _ => true
  | .trlDebounceExpiry => true
  | .bodyDebounceExpiry => true
  | .ack _ => true
  | .hold _ => true
  | .unhold _ => true
  | .push _ => true
  | .pop _ => true
  | .writePosition _ => true
  | .writeAxle _ => true
  | .writeProfile _ => true
  | .writeSettings _ => true
  | .clearSection _ => true
  | .vehicleState _ => true
  | .keptTickSaturation => true
  | _ => false

theorem exec_holdings_of_event {c : Instr} {s t : State}
    (hc : (movesHoldings c || (requestOf c).isSome) = false) (h : exec c s = .next t) : t.holdings = s.holdings := by
  cases c with
  | gapExpiry run => cases h; exact holdings_ite rfl rfl
  | stepDeadlineExpiry =>
    cases h
    split
    · rfl
    · exact holdings_ite (s.holdings_endTeach _) rfl
  | trlChange high => cases h; rfl
  | bodyChange high => cases h; rfl
  | flashPhase => cases h; exact holdings_ite rfl rfl
  | cyclicReport port =>
    cases h
    refine holdings_ite ?_ rfl
    dsimp only
    split
    · rfl
    · rw [State.holdings_setPort, State.holdings_reportAxle, State.holdings_setPort]
  | frameOffer port =>
    cases h
    refine holdings_ite ?_ rfl
    split <;> rfl
  | attemptEnd port result =>
    cases h
    refine holdings_ite ?_ rfl
    cases result with
    | success => rfl
    | lostArbitration => rfl
    | failure => exact holdings_ite (s.holdings_portReset port) rfl
  | busOffReturn port =>
    cases h
    dsimp only
    split
    · rfl
    · exact holdings_ite rfl rfl
  | idleExpiry =>
    cases h
    split
    · refine holdings_ite ?_ rfl
      rw [State.holdings_endTenure, State.holdings_notice]
    · rfl
    · rfl
  | sectionSave result =>
    cases h
    refine holdings_ite ?_ rfl
    split
    · rfl
    · exact s.holdings_finishSection _ _ _
  | _ => cases hc

theorem exec_holdings_of_request {c : Instr} {s t : State}
    (hc : (movesHoldings c || (requestOf c).isNone) = false) (h : exec c s = .next t) : t.holdings = s.holdings := by
  cases c with
  | readPosition r => cases h; exact State.holdings_request fun _ => State.holdings_answer ..
  | readAxle r => cases h; exact State.holdings_request fun _ => State.holdings_answer ..
  | readProfile r => cases h; exact State.holdings_request fun _ => State.holdings_answer ..
  | readSettings r => cases h; exact State.holdings_request fun _ => State.holdings_answer ..
  | readForeign r =>
    cases h
    refine State.holdings_request fun i => ?_
    split
    · exact s.holdings_refuse ..
    · exact s.holdings_answer ..
  | readLineStatus r =>
    cases h
    refine State.holdings_request fun q => ?_
    rw [State.holdings_answer]
    exact holdings_ite (s.holdings_setLine _ _) rfl
  | readStack r => cases h; exact State.holdings_request fun _ => State.holdings_answer ..
  | readStatus r => cases h; exact State.holdings_request fun _ => State.holdings_answer ..
  | grantRequest r =>
    cases h
    refine State.holdings_request fun _ => ?_
    split
    · rw [State.holdings_reply, State.holdings_beginTenure]
    · exact holdings_ite (by rw [State.holdings_reply, State.holdings_refreshIdle])
        (by rw [State.holdings_reply, State.holdings_joinWaiting])
    · rw [State.holdings_reply, State.holdings_joinWaiting]
  | grantRelease r =>
    cases h
    refine State.holdings_request fun _ => holdings_ite ?_ (holdings_ite ?_ (s.holdings_refuse ..))
    · rw [State.holdings_reply, State.holdings_endTenure]
    · rw [State.holdings_reply, State.holdings_stopWaiting]
  | lockTruck r =>
    cases h
    refine State.holdings_edit fun _ => ?_
    rw [State.holdings_reply, State.holdings_refreshIdle]
    rfl
  | teachStart r =>
    cases h
    refine State.holdings_edit fun codes => holdings_ite (s.holdings_refuse ..) ?_
    split
    · exact s.holdings_refuse ..
    · exact State.holdings_answer ..
  | teachAppend r =>
    cases h
    refine State.holdings_edit fun codes => ?_
    split
    · exact s.holdings_refuse ..
    · split
      · exact s.holdings_refuse ..
      · exact State.holdings_answer ..
  | teachAbort r =>
    cases h
    refine State.holdings_edit fun _ => ?_
    split
    · exact s.holdings_refuse ..
    · rw [State.holdings_reply, State.holdings_endTeach]
  | unknownRequest code r =>
    cases hcode : namesRequest code with
    | false =>
      rw [exec_unknownRequest hcode] at h
      cases h
      exact State.holdings_request fun _ => rfl
    | true => rw [exec_unknownRequest_known hcode] at h; cases h
  | _ => cases hc

theorem exec_holdings {c : Instr} {s t : State} (hc : movesHoldings c = false) (h : exec c s = .next t) :
    t.holdings = s.holdings := by
  cases hrequest : requestOf c with
  | none => exact exec_holdings_of_event (by rw [hc, hrequest]; rfl) h
  | some codeAndFrame => exact exec_holdings_of_request (by rw [hc, hrequest]; rfl) h

/-! ### One position after an operation -/

theorem State.pos_setLive (s : State) (p q : Pos) (m : KindMask) :
    (s.setLive p m).pos q = if q = p then { s.pos p with live := m } else s.pos q := s.pos_setPos p q _

/-- A position with IMBALANCE not live: what is left of it where its twin partner leaves the pair (R118). -/
def Position.withoutImbalance (x : Position) : Position := { x with live := dropKind x.live .imbalance }

theorem Position.withoutImbalance_withoutImbalance (x : Position) :
    x.withoutImbalance.withoutImbalance = x.withoutImbalance := by
  have hlive : dropKind (dropKind x.live .imbalance) .imbalance = dropKind x.live .imbalance :=
    kindMask_ext fun k => by rw [hasKind_dropKind, hasKind_dropKind, Bool.and_assoc, Bool.and_self]
  simp only [Position.withoutImbalance, hlive]

@[simp] theorem Position.empty_withoutImbalance : Position.empty.withoutImbalance = Position.empty := rfl

theorem State.pos_dropPartnerImbalance (s : State) (p q : Pos) : (s.dropPartnerImbalance p).pos q =
    if q = partner p then (s.pos (partner p)).withoutImbalance else s.pos q :=
  s.pos_setPos (partner p) q _

/-- A record reset leaves the record that a load makes of the same ID (R36, R57, R84). -/
theorem State.recordReset_eq_setPos (s : State) (p : Pos) (id : Option SensorId) : s.recordReset p id =
    { (s.setPos p (loadedPosition p id s.trailerPresent s.tick)).dropPartnerImbalance p with
      foreign := foreignWithout s.foreign id } := rfl

theorem State.pos_recordReset (s : State) (p q : Pos) (id : Option SensorId) : (s.recordReset p id).pos q =
    if q = p then loadedPosition p id s.trailerPresent s.tick
    else if q = partner p then (s.pos q).withoutImbalance
    else s.pos q := by
  have hdrop : (s.recordReset p id).pos q =
      ((s.setPos p (loadedPosition p id s.trailerPresent s.tick)).dropPartnerImbalance p).pos q := rfl
  rw [hdrop, State.pos_dropPartnerImbalance]
  by_cases hq : q = partner p
  · subst hq
    rw [if_pos rfl, if_neg (partner_ne p), if_pos rfl, State.pos_setPos_ne _ _ (partner_ne p)]
  · rw [if_neg hq, if_neg hq, State.pos_setPos]

/-- With no ID to store, the record is emptied (R36). -/
@[simp] theorem loadedPosition_none (p : Pos) (present : Bool) (now : Tick) :
    loadedPosition p none present now = Position.empty := rfl

/-- With an ID, the position waits for its sensor, or is DETACHED with the trailer away (R36, R57, R84). -/
theorem loadedPosition_some (p : Pos) (id : SensorId) (present : Bool) (now : Tick) :
    loadedPosition p (some id) present now = { Position.empty with
      sensor := some id
      state := if inTruck p = true ∨ present = true then .waiting else .detached
      deadline := if inTruck p = true ∨ present = true then some (now + 6000#24) else none } := by
  by_cases h : inTruck p = true ∨ present = true
  · have hst : stateAfterReset p (some id) present = .waiting := if_pos ((Bool.or_eq_true ..).symm ▸ h)
    simp only [loadedPosition, hst, if_pos h]
    rfl
  · have hst : stateAfterReset p (some id) present = .detached := if_neg ((Bool.or_eq_true ..).symm ▸ h)
    simp only [loadedPosition, hst, if_neg h, reduceCtorEq, if_false]

@[simp] theorem loadedPosition_sensor (p : Pos) (id : Option SensorId) (present : Bool) (now : Tick) :
    (loadedPosition p id present now).sensor = id := rfl

theorem State.pos_decouple (s : State) (q : Pos) :
    s.decouple.pos q = if inTruck q then s.pos q else detach (s.pos q) :=
  calc s.decouple.pos q
    _ = (s.mapPos fun p x => if inTruck p then x else detach x).pos q := by simp only [State.decouple, State.pos]
    _ = _ := s.pos_mapPos _ q

theorem State.pos_recouple (s : State) (q : Pos) : s.recouple.pos q = if (s.pos q).state = .detached then
    { s.pos q with state := .waiting, deadline := some (after s.tick Config.waitingTicks) } else s.pos q :=
  calc s.recouple.pos q
    _ = (s.mapPos fun _ x => if x.state = .detached then
          { x with state := .waiting, deadline := some (after s.tick Config.waitingTicks) } else x).pos q := by
      simp only [State.recouple, State.pos]
    _ = _ := s.pos_mapPos _ q

/-- Pc alone follows from the last sample (R65, R66). -/
theorem State.withPc_eq (s : State) (x : Position) : s.withPc x = { x with pc := (s.withPc x).pc } := by
  unfold State.withPc
  split
  · rfl
  · split <;> rfl

/-- The figures of an accepted sample: Pc, leak history and leak rate (R74). -/
theorem State.withFigures_eq (s : State) (d : Delivery) (x : Position) : s.withFigures d x = { x with
    pc := (s.withFigures d x).pc, leakHistory := (s.withFigures d x).leakHistory
    leakRate := (s.withFigures d x).leakRate } := by
  unfold State.withFigures; dsimp only
  split
  · rfl
  · rw [State.withPc_eq]
    split <;> rfl

/-! ### The kinds live after tests -/

theorem State.hasKind_testedLive (s : State) (p : Pos) (which : Kind → Bool) (k : Kind) :
    hasKind (s.testedLive p which) k = if which k then
      liveAfterTest s.activeProfile (thresholds (s.target (axleOf p)) s.activeProfile) (s.pairDiff p) (s.pos p) k
      else hasKind (s.pos p).live k := hasKind_maskOf _ k

/-- MISSING is no test's to set or clear (R115). -/
theorem State.missing_testedLive (s : State) (p : Pos) :
    hasKind (s.testedLive p allButMissing) .missing = hasKind (s.pos p).live .missing :=
  s.hasKind_testedLive p allButMissing .missing

/-- A position that is not ACTIVE is in no pair, so that the test of IMBALANCE leaves it not live (R72, R113). -/
theorem State.testedLive_imbalance_inactive {s : State} {p : Pos} (h : (s.pos p).state ≠ .active) :
    s.testedLive p imbalanceOnly = dropKind (s.pos p).live .imbalance := by
  have hnone : s.pairDiff p = none := if_neg fun hpair => h hpair.2.1
  refine kindMask_ext fun k => ?_
  rw [State.hasKind_testedLive, hasKind_dropKind]
  by_cases hk : k = .imbalance
  · subst hk
    simp [imbalanceOnly, liveAfterTest, clearTest, setTest, hnone]
  · simp [imbalanceOnly, hk]

/-! ### The tests of an accepted sample -/

/-- The live sets that the tests of an accepted sample leave at `p` and its twin partner (R74, R115). -/
def State.sampleTested (s : State) (p : Pos) : State :=
  (s.setLive p (s.testedLive p allButMissing)).setLive (partner p)
    (if (s.axle (axleOf p)).kind = .twin then s.testedLive (partner p) imbalanceOnly else (s.pos (partner p)).live)

theorem State.pos_sampleTested (s : State) (p q : Pos) : (s.sampleTested p).pos q = { s.pos q with
    live := if q = p then s.testedLive p allButMissing
      else if q = partner p ∧ (s.axle (axleOf p)).kind = .twin then s.testedLive q imbalanceOnly
      else (s.pos q).live } := by
  rw [State.sampleTested, State.pos_setLive, State.pos_setLive, State.pos_setLive]
  by_cases hq : q = partner p
  · subst hq
    simp only [if_true, if_neg (partner_ne p), true_and]
  · by_cases hp : q = p
    · subst hp
      simp only [if_neg hq, if_true]
    · simp only [if_neg hp, hq, false_and, if_false]

/-- The transitions of an accepted sample are those of its position, then those of the twin partner (R74). -/
theorem State.evaluateSample_eq_latchAll (s : State) (p : Pos) : s.evaluateSample p =
    (s.sampleTested p).latchAll .sample
      (wentLive s (s.sampleTested p) p ++ wentLive s (s.sampleTested p) (partner p)) := by
  have hlive : ∀ q, wentLive s (s.sampleTested p) q =
      (transitions (s.pos q).live ((s.sampleTested p).pos q).live).map fun k => (q, k) := fun _ => rfl
  rw [hlive, hlive, State.pos_sampleTested, State.pos_sampleTested]
  simp only [if_true, if_neg (partner_ne p), true_and]
  rfl

theorem mem_wentLive {before after : State} {p : Pos} {x : Pos × Kind} (h : x ∈ wentLive before after p) :
    x.1 = p ∧ hasKind (after.pos p).live x.2 = true ∧ hasKind (before.pos p).live x.2 = false := by
  obtain ⟨k, hk, rfl⟩ := List.mem_map.1 h
  exact ⟨rfl, mem_transitions.1 hk⟩

/-! ### The sensor of every position -/

/-- The sensor ID, or none, of each position. -/
def State.sensors (s : State) (p : Pos) : Option SensorId := (s.pos p).sensor

theorem State.sensors_congr {s t : State} (h : t.positions = s.positions) : t.sensors = s.sensors :=
  funext fun p => congrArg Position.sensor (State.pos_congr h p)

theorem State.sensors_setPos_same {s : State} {p : Pos} {x : Position} (h : x.sensor = (s.pos p).sensor) :
    (s.setPos p x).sensors = s.sensors := by
  funext q
  rw [State.sensors, State.pos_setPos]
  split
  · next hq => rw [h, hq]; rfl
  · rfl

@[simp] theorem State.sensors_dropPartnerImbalance (s : State) (p : Pos) :
    (s.dropPartnerImbalance p).sensors = s.sensors := State.sensors_setPos_same rfl

@[simp] theorem State.sensors_latchAll (s : State) (c : AlarmCause) (ts : List (Pos × Kind)) :
    (s.latchAll c ts).sensors = s.sensors := by
  funext q
  rw [State.sensors, (s.pos_latchAll c ts q).1]
  rfl

@[simp] theorem State.sensors_reevaluate (s : State) : s.reevaluate.sensors = s.sensors := by
  funext q
  rw [State.sensors, (s.pos_reevaluate q).1]
  rfl

@[simp] theorem State.sensors_fallMissing (s : State) (p : Pos) : (s.fallMissing p).sensors = s.sensors := by
  rw [State.fallMissing, State.sensors_latchAll, State.sensors_dropPartnerImbalance]
  exact State.sensors_setPos_same rfl

@[simp] theorem State.sensors_takeHold (s : State) (p : Pos) : (s.takeHold p).sensors = s.sensors := by
  rw [State.takeHold, State.sensors_dropPartnerImbalance]
  exact State.sensors_setPos_same rfl

@[simp] theorem State.sensors_restoreHold (s : State) (p : Pos) : (s.restoreHold p).sensors = s.sensors := by
  unfold State.restoreHold; dsimp only
  split
  · rfl
  · rw [State.sensors_latchAll]
    exact State.sensors_setPos_same rfl
  · split
    · rw [State.sensors_fallMissing]
      exact State.sensors_setPos_same rfl
    · exact State.sensors_setPos_same rfl

@[simp] theorem State.sensors_evaluateSample (s : State) (p : Pos) :
    (s.evaluateSample p).sensors = s.sensors := by
  rw [State.evaluateSample_eq_latchAll, State.sensors_latchAll]
  funext q
  rw [State.sensors, State.pos_sampleTested]
  rfl

@[simp] theorem State.sensors_accept (s : State) (p : Pos) (d : Delivery) :
    (s.accept p d).sensors = s.sensors := by
  have hplaced : ((s.setPos p (s.withFigures d (supervise (s.pos p) d (landSample d (s.pos p))))).evaluateSample
      p).sensors = s.sensors := by
    rw [State.sensors_evaluateSample]
    exact State.sensors_setPos_same (by rw [State.withFigures_eq]; rfl)
  unfold State.accept; dsimp only
  split
  · exact hplaced
  · exact hplaced

@[simp] theorem State.sensors_landNormally (s : State) (p : Pos) (d : Delivery) :
    (s.landNormally p d).sensors = s.sensors := by
  unfold State.landNormally
  split
  case h_1 | h_2 | h_3 => exact s.sensors_accept p d
  all_goals rfl

@[simp] theorem State.sensors_changeStack (s : State) (c : StackChange) :
    (s.changeStack c).sensors = s.sensors := by
  rw [State.changeStack_raisedOnBoth]; dsimp only
  split
  · rw [State.sensors_reevaluate]; rfl
  · rfl

theorem State.sensors_recordReset (s : State) (p q : Pos) (id : Option SensorId) :
    (s.recordReset p id).sensors q = if q = p then id else s.sensors q := by
  rw [State.sensors, State.pos_recordReset]
  split
  · rfl
  · split <;> rfl

@[simp] theorem State.sensors_decouple (s : State) : s.decouple.sensors = s.sensors := by
  funext q
  rw [State.sensors, State.pos_decouple]
  split
  · rfl
  · unfold detach; split <;> rfl

@[simp] theorem State.sensors_recouple (s : State) : s.recouple.sensors = s.sensors := by
  funext q
  rw [State.sensors, State.pos_recouple]
  split <;> rfl

@[simp] theorem State.sensors_endTeach (s : State) (o : TeachOutcome) : (s.endTeach o).sensors = s.sensors :=
  State.sensors_congr (by rw [State.endTeach_eq])

@[simp] theorem State.sensors_removeFromTeach (s : State) (gone : Pos → Bool) (also : Bool) (o : TeachOutcome) :
    (s.removeFromTeach gone also o).sensors = s.sensors :=
  State.sensors_congr (by rw [State.removeFromTeach_eq])

@[simp] theorem State.sensors_advanceTeach (s : State) (t : TeachSession) (h : Pos) (rest : List Pos) (n : Nat) :
    (s.advanceTeach t h rest n).sensors = s.sensors :=
  State.sensors_congr (by rw [State.advanceTeach_eq])

@[simp] theorem State.sensors_recomputeWarn (s : State) : s.recomputeWarn.sensors = s.sensors :=
  State.sensors_congr s.recomputeWarn_positions

@[simp] theorem State.sensors_saturated (s : State) : s.saturated.sensors = s.sensors := by
  funext q
  rw [State.sensors, State.pos_saturated]
  rfl

theorem State.sensors_acknowledge (s : State) (r : Request) (ps : List Pos) :
    (s.mapPos fun p x => if ps.contains p then x.acknowledge r.port else x).sensors = s.sensors := by
  funext q
  rw [State.sensors, State.pos_mapPos]
  split <;> rfl

/-! ### What a command can do to the wheel table and the values beside it -/

/-- A change of the Profile Stack that a push or a removal by origin makes (R99 to R103, R106, R107); nothing pushes
an entry of origin RESET. -/
inductive StackMove (stack : List StackEntry) : StackChange → Prop
  | pushes (e : StackEntry) (cause : StackCause) (port : Option Port) (h : e.origin ≠ .reset) :
    StackMove stack (pushChange stack e cause port)
  | removes (o : Origin) (cause : StackCause) (port : Option Port) (c : StackChange)
    (h : popChange stack o cause port = some c) : StackMove stack c

/-- What the wheel table and the values beside it can go through by one command: they stand after it as they stand in
the second state. -/
inductive State.Moves (s : State) : Instr → State → Prop
  | stays (c : Instr) : s.Moves c s
  | restarts (straps : BitVec 2) (cut : SaveCut) : s.Moves (.deviceReset straps cut) (s.restarted straps cut)
  | starts (h : s.phase = .starting) : s.Moves .endOfStarting s.startRunning
  | startsRaised (change : StackChange) (h : s.phase = .starting) (hc : StackMove s.startRunning.stack change) :
    s.Moves .endOfStarting (s.startRunning.changeStack change)
  | delivers (c : Instr) (ready : State) (e : MergeEntry) (later : List MergeEntry) (hm : s.merge = e :: later)
    (hh : ready.holdings = s.holdings) (ht : ready.teach = s.teach) (hg : ready.grant = s.grant) :
    s.Moves c (ready.deliver e.delivery)
  | expires (p : Pos) (h : (s.pos p).deadline = some s.tick) : s.Moves (.deadlineExpiry p) (s.fallMissing p)
  | couples (h : s.trailerPresent = false) : s.Moves .trlDebounceExpiry s.recouple
  | decouples (h : s.trailerPresent = true) : s.Moves .trlDebounceExpiry s.decouple
  | restacks (c : Instr) (ready : State) (change : StackChange) (hh : ready.holdings = s.holdings)
    (hc : StackMove s.stack change) : s.Moves c (ready.changeStack change)
  | acknowledges (r : Request) (ps : List Pos) :
    s.Moves (.ack r) (s.mapPos fun p x => if ps.contains p then x.acknowledge r.port else x)
  | holds (r : Request) (p : Pos)
    (h : (s.pos p).state = .waiting ∨ (s.pos p).state = .active ∨ (s.pos p).state = .missing) :
    s.Moves (.hold r) (s.takeHold p)
  | unholds (r : Request) (p : Pos) (h : (s.pos p).state = .held) : s.Moves (.unhold r) (s.restoreHold p)
  | writesPosition (r : Request) (p : Pos) (id : Option SensorId) (h : s.servesHolder r)
    (hid : s.idRefused p id = false) : s.Moves (.writePosition r) (s.recordReset p id)
  | writesAxle (r : Request) (w : AxleWrite) (k : AxleKind) (h : s.servesHolder r) :
    s.Moves (.writeAxle r) (s.applyAxle w k)
  | writesProfile (r : Request) (w : ProfileWrite) (h : s.servesHolder r) :
    s.Moves (.writeProfile r) (s.applyProfile w.index (w.result (s.profile w.index)).1)
  | writesSettings (r : Request) (w : SettingsWrite) (x : Settings) (h : s.servesHolder r)
    (hx : w.apply s.settings = some x) : s.Moves (.writeSettings r) (s.applySettings x)
  | clears (r : Request) (truck : Bool) (h : s.servesHolder r) :
    s.Moves (.clearSection r) (s.clearVehicleSection truck)
  | takesContext (r : Request) (h : s.phase = .running) :
    s.Moves (.vehicleState r) ({ s with context := s.contextAfter r } : State).reevaluate
  | saturates : s.Moves .keptTickSaturation s.saturated

/-- The state after `c` holds what one of these moves of `s` leaves. -/
def State.MovesTo (s : State) (c : Instr) (t : State) : Prop := ∃ u, s.Moves c u ∧ t.holdings = u.holdings

theorem State.MovesTo.stays {s t : State} {c : Instr} (h : t.holdings = s.holdings) : s.MovesTo c t :=
  ⟨s, .stays c, h⟩

theorem movesTo_ite {p : Prop} [Decidable p] {s t u : State} {c : Instr} (ht : p → s.MovesTo c t)
    (hu : ¬ p → s.MovesTo c u) : s.MovesTo c (if p then t else u) := by
  split
  · next h => exact ht h
  · next h => exact hu h

theorem State.MovesTo.request {α : Type} {s : State} {c : Instr} {r : Request} {code : Byte} {ops : Option α}
    {own : α → State → State} (hown : ∀ x, s.MovesTo c (own x s)) : s.MovesTo c (s.request r code ops own) := by
  obtain h | ⟨o, h⟩ | ⟨-, x, -, h⟩ := s.request_cases r code ops own
  · rw [h]; exact .stays rfl
  · rw [h]; exact .stays (s.holdings_refuse r code o)
  · rw [h]; exact hown x

theorem State.MovesTo.edit {α : Type} {s : State} {c : Instr} {r : Request} {code : Byte} {ops : Option α}
    {own : α → State → State} (hown : s.servesHolder r → ∀ x, s.MovesTo c (own x s)) :
    s.MovesTo c (s.edit r code ops own) := by
  obtain h | ⟨o, h⟩ | ⟨hr, x, -, h⟩ := s.edit_cases r code ops own
  · rw [h]; exact .stays rfl
  · rw [h]; exact .stays (s.holdings_refuse r code o)
  · rw [h]; exact hown hr x

theorem State.movesTo_takeCopy {s : State} (c : Instr) (i : Fin 4) (y : Line) (copy : Copy) :
    s.MovesTo c ((s.setLine i y).takeCopy copy) := by
  unfold State.takeCopy
  refine movesTo_ite (fun _ => .stays rfl) fun _ => movesTo_ite (fun _ => .stays rfl) fun _ => ?_
  cases hm : s.merge with
  | nil => rw [State.setLine_merge, hm]; exact .stays rfl
  | cons e later =>
    rw [State.setLine_merge, hm]
    exact ⟨_, .delivers c { s.setLine i y with merge := later } e later hm rfl rfl rfl, rfl⟩

theorem exec_receivedByte_moves {s t : State} {i : Fin 4} {high : Bool} {v : Byte}
    (h : exec (.receivedByte i high v) s = .next t) : s.MovesTo (.receivedByte i high v) t := by
  cases h
  refine movesTo_ite (fun _ => ?_) fun _ => .stays rfl
  obtain ⟨y, hbyte | ⟨copy, -, hbyte⟩, -⟩ := s.takeByte_cases i v
  · rw [hbyte]; exact .stays rfl
  · rw [hbyte]; exact s.movesTo_takeCopy _ i y copy

theorem exec_windowExpiry_moves {s t : State} {id : SensorId} {seq : BitVec 4}
    (h : exec (.windowExpiry id seq) s = .next t) : s.MovesTo (.windowExpiry id seq) t := by
  cases h
  split
  · exact .stays rfl
  · next e later hm =>
    exact movesTo_ite (fun _ => ⟨_, .delivers _ { s with merge := later } e later hm rfl rfl rfl, rfl⟩) fun _ =>
      .stays rfl

theorem State.bodyRises_moves {s : State} {c : Instr} {ready : State} (hh : ready.holdings = s.holdings) :
    s.MovesTo c ready.bodyRises := by
  have hstack : ready.stack = s.stack := congrArg Holdings.stack hh
  unfold State.bodyRises
  split
  · exact .stays hh
  · exact ⟨_, .restacks c ready _ hh (hstack ▸ .pushes _ _ _ nofun), rfl⟩

theorem State.bodyFalls_moves {s : State} {c : Instr} {ready : State} (hh : ready.holdings = s.holdings) :
    s.MovesTo c ready.bodyFalls := by
  have hstack : ready.stack = s.stack := congrArg Holdings.stack hh
  unfold State.bodyFalls
  split
  · exact .stays hh
  · next change hc => exact ⟨_, .restacks c ready _ hh (.removes _ _ _ _ (hstack ▸ hc)), rfl⟩

theorem State.MovesTo.of_holdings {s t u : State} {c : Instr} (h : s.MovesTo c t) (hu : u.holdings = t.holdings) :
    s.MovesTo c u := by
  obtain ⟨v, hv, ht⟩ := h
  exact ⟨v, hv, hu.trans ht⟩

theorem exec_endOfStarting_moves {s t : State} (h : exec .endOfStarting s = .next t) :
    s.MovesTo .endOfStarting t := by
  cases h
  refine movesTo_ite (fun hp => .of_holdings ?_ (State.holdings_recomputeWarn _)) fun _ => .stays rfl
  refine movesTo_ite (fun _ => ?_) fun _ => ⟨_, .starts hp, rfl⟩
  unfold State.bodyRises
  split
  · exact ⟨_, .starts hp, rfl⟩
  · exact ⟨_, .startsRaised _ hp (.pushes _ _ _ (by nofun)), rfl⟩

theorem exec_trlDebounceExpiry_moves {s t : State} (h : exec .trlDebounceExpiry s = .next t) :
    s.MovesTo .trlDebounceExpiry t := by
  cases h
  refine movesTo_ite (fun hdue => .of_holdings ?_ (State.holdings_recomputeWarn _)) fun _ => .stays rfl
  have hdiffers : (s.trl != s.trailerPresent) = true := (Bool.and_eq_true_iff.1 hdue).2
  cases htrl : s.trl with
  | true =>
    refine ⟨_, .couples (by rw [htrl] at hdiffers; simpa using hdiffers), ?_⟩
    simp only [if_true, State.recouple, State.mapPos, State.holdings, State.pos]
    rfl
  | false =>
    refine ⟨_, .decouples (by rw [htrl] at hdiffers; simpa using hdiffers), ?_⟩
    simp only [Bool.false_eq_true, if_false, State.holdings_removeFromTeach]
    simp only [State.decouple, State.mapPos, State.holdings, State.pos]

theorem exec_hold_moves {s t : State} {r : Request} (h : exec (.hold r) s = .next t) : s.MovesTo (.hold r) t := by
  cases h
  refine .request fun p => ?_
  have htaken : ∀ hst, s.MovesTo (.hold r) ((s.takeHold p).recomputeWarn.reply r codeHold .done) := fun hst =>
    ⟨_, .holds r p hst, by rw [State.holdings_reply, State.holdings_recomputeWarn]⟩
  split
  · exact .stays (s.holdings_refuse ..)
  · exact .stays (s.holdings_refuse ..)
  · exact .stays (s.holdings_reply ..)
  · next hst => exact htaken (.inl hst)
  · next hst => exact htaken (.inr (.inl hst))
  · next hst => exact htaken (.inr (.inr hst))

theorem exec_writePosition_moves {s t : State} {r : Request} (h : exec (.writePosition r) s = .next t) :
    s.MovesTo (.writePosition r) t := by
  cases h
  refine .edit fun hr w => movesTo_ite (fun _ => .stays (s.holdings_refuse ..)) fun hid => ?_
  refine movesTo_ite (fun _ => .stays (s.holdings_refuse ..)) fun _ => movesTo_ite (fun _ => ?_) fun _ => ?_
  · exact ⟨_, .writesPosition r w.1 w.2 hr (Bool.not_eq_true _ ▸ hid), by
      rw [State.holdings_reply, State.holdings_recomputeWarn, State.holdings_refreshIdle, State.holdings_mark]⟩
  · exact .stays (by rw [State.holdings_reply, State.holdings_refreshIdle])

theorem exec_writeAxle_moves {s t : State} {r : Request} (h : exec (.writeAxle r) s = .next t) :
    s.MovesTo (.writeAxle r) t := by
  cases h
  refine .edit fun hr w => ?_
  dsimp only
  split
  · exact .stays (s.holdings_refuse ..)
  · refine movesTo_ite (fun _ => .stays (by rw [State.holdings_reply, State.holdings_refreshIdle])) fun _ => ?_
    exact movesTo_ite (fun _ => .stays (s.holdings_refuse ..)) fun _ =>
      ⟨_, .writesAxle r w _ hr, State.holdings_reply ..⟩

/-- Every command moves the wheel table and the values beside it in one of these ways. -/
theorem exec_moves {c : Instr} {s t : State} (h : exec c s = .next t) : s.MovesTo c t := by
  by_cases hmoves : movesHoldings c = true
  · cases c with
    | deviceReset straps cut => cases h; exact ⟨_, .restarts straps cut, rfl⟩
    | endOfStarting => exact exec_endOfStarting_moves h
    | receivedByte i high v => exact exec_receivedByte_moves h
    | windowExpiry id seq => exact exec_windowExpiry_moves h
    | deadlineExpiry p =>
      cases h
      exact movesTo_ite (fun hp => ⟨_, .expires p hp, State.holdings_recomputeWarn _⟩) fun _ => .stays rfl
    | trlDebounceExpiry => exact exec_trlDebounceExpiry_moves h
    | bodyDebounceExpiry =>
      cases h
      refine movesTo_ite (fun _ => .of_holdings ?_ (State.holdings_recomputeWarn _)) fun _ => .stays rfl
      exact movesTo_ite (fun _ => State.bodyRises_moves rfl) fun _ => State.bodyFalls_moves rfl
    | ack r =>
      cases h
      exact .request fun ps => ⟨_, .acknowledges r ps, by rw [State.holdings_answer, State.holdings_recomputeWarn]⟩
    | hold r => exact exec_hold_moves h
    | unhold r =>
      cases h
      refine .request fun p => movesTo_ite (fun hp => ⟨_, .unholds r p hp, ?_⟩) fun _ => .stays (s.holdings_reply ..)
      rw [State.holdings_reply, State.holdings_recomputeWarn]
    | push r =>
      cases h
      refine .request fun i =>
        ⟨_, .restacks _ s _ rfl (.pushes { index := i, origin := .port r.port } .push (some r.port) nofun), ?_⟩
      rw [State.holdings_reply, State.holdings_recomputeWarn]
    | pop r =>
      cases h
      refine .request fun _ => ?_
      split
      · exact .stays (s.holdings_refuse ..)
      · next change hc =>
        refine ⟨_, .restacks _ s _ rfl (.removes _ _ _ _ hc), ?_⟩
        rw [State.holdings_reply, State.holdings_recomputeWarn]
    | writePosition r => exact exec_writePosition_moves h
    | writeAxle r => exact exec_writeAxle_moves h
    | writeProfile r =>
      cases h
      exact .edit fun hr w => movesTo_ite (fun _ => ⟨_, .writesProfile r w hr, State.holdings_reply ..⟩) fun _ =>
        .stays (by rw [State.holdings_reply, State.holdings_refreshIdle])
    | writeSettings r =>
      cases h
      refine .edit fun hr w => ?_
      split
      · exact .stays (s.holdings_refuse ..)
      · next x hx => exact ⟨_, .writesSettings r w x hr hx, State.holdings_reply ..⟩
    | clearSection r =>
      cases h
      refine .edit fun hr truck => movesTo_ite (fun _ => .stays (s.holdings_refuse ..)) fun _ => ?_
      refine ⟨_, .clears r truck hr, ?_⟩
      rw [State.holdings_reply, State.holdings_recomputeWarn, State.holdings_refreshIdle]
    | vehicleState r =>
      cases h
      refine movesTo_ite (fun htaken => ⟨_, .takesContext r ?_, State.holdings_recomputeWarn _⟩) fun _ => .stays rfl
      simp only [Bool.and_eq_true, beq_iff_eq] at htaken
      exact htaken.1.2
    | keptTickSaturation => exact ⟨s.saturated, .saturates, congrArg State.holdings (Host.Outcome.next.inj h).symm⟩
    | _ => cases hmoves
  · exact .stays (exec_holdings (Bool.not_eq_true _ ▸ hmoves) h)

/-- A step: time passes, which moves none of it, or the front command does (log 1). -/
theorem step_moves {s t : State} (h : step s = .next t) : t.holdings = s.holdings ∨
    ∃ c rest, s.pending = c :: rest ∧ ({ s with pending := rest } : State).MovesTo c t := by
  cases hpending : s.pending with
  | nil =>
    obtain rfl : s.idle = t := Host.Outcome.next.inj ((step_of_pending_nil hpending).symm.trans h)
    refine .inl ?_
    rw [State.idle_frame]
    simp only [State.holdings]
  | cons c rest =>
    have hexec : exec c { s with pending := rest } = .next t := (step_of_pending_eq hpending).symm.trans h
    exact .inr ⟨c, rest, rfl, exec_moves hexec⟩

/-! ### What a delivery does to the sensors and the Foreign Sensor List (R39, R40, R45, R138) -/

@[simp] theorem foreignWithout_none (l : List ForeignEntry) : foreignWithout l none = l :=
  List.filter_eq_self.2 fun _ _ => rfl

@[simp] theorem State.foreign_landNormally (s : State) (p : Pos) (d : Delivery) :
    (s.landNormally p d).foreign = s.foreign := by rw [State.landNormally_eq]

@[simp] theorem State.foreign_advanceTeach (s : State) (t : TeachSession) (h : Pos) (rest : List Pos) (n : Nat) :
    (s.advanceTeach t h rest n).foreign = s.foreign := by rw [State.advanceTeach_eq]

@[simp] theorem State.foreign_restoreHold (s : State) (p : Pos) : (s.restoreHold p).foreign = s.foreign := by
  rw [State.restoreHold_eq]

@[simp] theorem State.sensors_teachConfirm (s : State) (t : TeachSession) (h : Pos) (rest : List Pos) (d : Delivery) :
    (s.teachConfirm t h rest d).sensors = s.sensors := by
  unfold State.teachConfirm; dsimp only
  rw [State.sensors_advanceTeach, State.sensors_landNormally]
  split
  · exact s.sensors_restoreHold h
  · rfl

@[simp] theorem State.foreign_teachConfirm (s : State) (t : TeachSession) (h : Pos) (rest : List Pos) (d : Delivery) :
    (s.teachConfirm t h rest d).foreign = s.foreign := by
  unfold State.teachConfirm; dsimp only
  rw [State.foreign_advanceTeach, State.foreign_landNormally]
  split
  · exact s.foreign_restoreHold h
  · rfl

/-- The sensors with `id` moved to `h`, from `q` or from nowhere (R138). -/
def movedSensors (sensors : Pos → Option SensorId) (h : Pos) (q : Option Pos) (id : SensorId) (p : Pos) :
    Option SensorId :=
  if p = h then some id else if q = some p then none else sensors p

theorem State.sensors_teachAssign (s : State) (t : TeachSession) (h : Pos) (rest : List Pos) (d : Delivery)
    (q : Option Pos) : (s.teachAssign t h rest d q).sensors = movedSensors s.sensors h q d.id := by
  unfold State.teachAssign; dsimp only
  rw [State.sensors_advanceTeach, State.sensors_landNormally]
  funext p
  have hreset : ∀ (u : State) (k : Pos) (id : Option SensorId), (u.teachReset k id).sensors p =
      if p = k then id else u.sensors p := fun u k id => u.sensors_recordReset k p id
  rw [hreset, movedSensors]
  cases q with
  | none => rfl
  | some k => simp only [hreset, Option.some.injEq, eq_comm (a := k)]

theorem State.foreign_teachAssign (s : State) (t : TeachSession) (h : Pos) (rest : List Pos) (d : Delivery)
    (q : Option Pos) : (s.teachAssign t h rest d q).foreign = foreignWithout s.foreign (some d.id) := by
  unfold State.teachAssign; dsimp only
  rw [State.foreign_advanceTeach, State.foreign_landNormally, State.teachReset_eq]
  cases q with
  | none => rfl
  | some k => simp only [State.teachReset_eq, foreignWithout_none]

/-- The three ways of a delivery: the sensors and the list stay, the list takes the ID, or a session moves the sensor
to the head of its queue. -/
inductive State.Delivered (s : State) (d : Delivery) (t : State) : Prop
  | keeps (hs : t.sensors = s.sensors) (hf : t.foreign = s.foreign)
  | hears (hn : s.holder d.id = none) (hs : t.sensors = s.sensors) (hf : t.foreign = foreignUpdate s.foreign d)
  | moves (session : TeachSession) (h : Pos) (rest : List Pos) (ht : s.teach = some session)
    (hq : session.queue = h :: rest) (hk : d.content.kind = .trigger) (hne : s.holder d.id ≠ some h)
    (hs : t.sensors = movedSensors s.sensors h (s.holder d.id) d.id)
    (hf : t.foreign = foreignWithout s.foreign (some d.id))

theorem State.sessionFor_eq_some {s : State} {d : Delivery} {t : TeachSession} :
    s.sessionFor d = some t ↔ d.content.kind = .trigger ∧ s.teach = some t := by
  unfold State.sessionFor
  split
  · next h => exact ⟨fun ht => ⟨h, ht⟩, fun ht => ht.2⟩
  · next h => exact ⟨nofun, fun ht => absurd ht.1 h⟩

theorem State.teachTrigger_delivered {s : State} {d : Delivery} {t : TeachSession} (h : s.sessionFor d = some t) :
    s.Delivered d (s.teachTrigger t d) := by
  obtain ⟨hkind, hteach⟩ := State.sessionFor_eq_some.1 h
  unfold State.teachTrigger
  split
  · exact .keeps rfl rfl
  · next head rest hqueue =>
    split
    · next q hq =>
      have hlands : ∀ code k, s.Delivered d ((s.landNormally q d).teachIgnored code d.id k head) := fun code k =>
        .keeps ((State.sensors_congr (State.notice_positions ..)).trans (s.sensors_landNormally q d))
          ((State.notice_foreign ..).trans (s.foreign_landNormally q d))
      split
      · exact .keeps (s.sensors_teachConfirm ..) (s.foreign_teachConfirm ..)
      · next hne =>
        split
        · exact hlands ..
        · split
          · exact hlands ..
          · refine .moves t head rest hteach hqueue hkind (hq ▸ fun e => hne (Option.some.inj e)) ?_
              (s.foreign_teachAssign ..)
            rw [hq]; exact s.sensors_teachAssign ..
    · next hnone =>
      split
      · exact .hears hnone (State.sensors_congr (State.notice_positions ..)) (State.notice_foreign ..)
      · refine .moves t head rest hteach hqueue hkind (hnone ▸ nofun) ?_ (s.foreign_teachAssign ..)
        rw [hnone]; exact s.sensors_teachAssign ..

theorem State.Delivered.recomputeWarn {s t : State} {d : Delivery} (h : s.Delivered d t) :
    s.Delivered d t.recomputeWarn := by
  have hs := t.sensors_recomputeWarn
  have hf := t.recomputeWarn_foreign
  cases h with
  | keeps ks kf => exact .keeps (hs.trans ks) (hf.trans kf)
  | hears hn ks kf => exact .hears hn (hs.trans ks) (hf.trans kf)
  | moves session h rest ht hq hk hne ks kf => exact .moves session h rest ht hq hk hne (hs.trans ks) (hf.trans kf)

theorem State.deliver_delivered (s : State) (d : Delivery) : s.Delivered d (s.deliver d) := by
  unfold State.deliver
  split
  · next hnone =>
    split
    · next t ht => exact (State.teachTrigger_delivered ht).recomputeWarn
    · exact .hears hnone rfl rfl
  · split
    · exact .keeps rfl rfl
    · split
      · next t ht => exact (State.teachTrigger_delivered ht).recomputeWarn
      · exact (State.Delivered.keeps (s.sensors_landNormally _ d) (s.foreign_landNormally _ d)).recomputeWarn

/-! ### Positions reset one after another (R32, R36, R118) -/

/-- Whether a position holds an ID or is in any state but UNASSIGNED: what an edit of its axle resets. -/
def Position.assigned (x : Position) : Bool := x.sensor.isSome || x.state != .unassigned

theorem Position.assigned_withoutImbalance (x : Position) : x.withoutImbalance.assigned = x.assigned := rfl

theorem State.resetAll_cons (s : State) (p : Pos) (ps : List Pos) : s.resetAll (p :: ps) =
    (if (s.pos p).assigned = true then s.recordReset p none else s).resetAll ps := rfl

/-- The positions listed that are assigned end empty; any other keeps all but an IMBALANCE shared with one of them. -/
theorem State.pos_resetAll (s : State) (ps : List Pos) (q : Pos) : (s.resetAll ps).pos q =
    if q ∈ ps ∧ (s.pos q).assigned = true then Position.empty
    else if partner q ∈ ps ∧ (s.pos (partner q)).assigned = true then (s.pos q).withoutImbalance
    else s.pos q := by
  induction ps generalizing s with
  | nil => simp only [List.not_mem_nil, false_and, if_false]; rfl
  | cons p ps ih =>
    rw [State.resetAll_cons]
    by_cases hp : (s.pos p).assigned = true
    · rw [if_pos hp, ih]
      simp only [State.pos_recordReset, loadedPosition_none]
      by_cases hqp : q = p
      · subst hqp
        have hempty : Position.empty.assigned = false := rfl
        simp only [if_true, hempty, Bool.false_eq_true, and_false, Position.empty_withoutImbalance, ite_self,
          List.mem_cons_self, hp, and_self]
      · by_cases hpartner : q = partner p
        · subst hpartner
          have hempty : Position.empty.assigned = false := rfl
          simp only [if_true, if_false, hempty, Bool.false_eq_true, and_false, partner_partner,
            Position.assigned_withoutImbalance, List.mem_cons, hqp, false_or, true_or, hp, and_self]
        · have hother : partner q ≠ p := fun h => hpartner (by rw [← h, partner_partner])
          have hnot : partner q ≠ partner p := fun h => hqp (by rw [← partner_partner q, h, partner_partner])
          simp only [if_false, hpartner, hnot, List.mem_cons, hqp, hother, false_or]
    · rw [if_neg hp, ih]
      have hskip : ∀ k : Pos, (k ∈ p :: ps ∧ (s.pos k).assigned = true) ↔ (k ∈ ps ∧ (s.pos k).assigned = true) := by
        intro k
        rw [List.mem_cons]
        constructor
        · rintro ⟨rfl | hk, ha⟩
          · exact absurd ha hp
          · exact ⟨hk, ha⟩
        · exact fun hk => ⟨.inr hk.1, hk.2⟩
      simp only [hskip]

@[simp] theorem State.foreign_resetAll (s : State) (ps : List Pos) : (s.resetAll ps).foreign = s.foreign := by
  induction ps generalizing s with
  | nil => rfl
  | cons p ps ih =>
    rw [State.resetAll_cons, ih]
    split
    · exact foreignWithout_none s.foreign
    · rfl

/-! ### What is stored, and a re-evaluation of it -/

/-- `t` holds what `u` holds, or what a re-evaluation of it leaves: how every stored value that the conditions are
tested against is written (R75, R99). -/
def State.Settles (u t : State) : Prop :=
  ∃ v : State, v.holdings = u.holdings ∧ (t.holdings = v.holdings ∨ t.holdings = v.reevaluate.holdings)

theorem State.Settles.of_holdings {u t : State} (h : t.holdings = u.holdings) : u.Settles t := ⟨u, rfl, .inl h⟩

theorem State.settles_ite {p : Prop} [Decidable p] {u v t : State} (hv : v.holdings = u.holdings)
    (ht : t = if p then v else v.reevaluate) : u.Settles t := by
  subst ht
  refine ⟨v, hv, ?_⟩
  split
  · exact .inl rfl
  · exact .inr rfl

theorem State.Settles.trans_holdings {u t w : State} (h : u.Settles t) (hw : w.holdings = t.holdings) :
    u.Settles w := by
  obtain ⟨v, hv, ht⟩ := h
  exact ⟨v, hv, ht.imp hw.trans hw.trans⟩

theorem State.changeStack_settles (s : State) (c : StackChange) :
    ({ s with stack := c.stack } : State).Settles (s.changeStack c) := by
  refine ⟨({ s with stack := c.stack } : State).raisedOnBoth 3 2 0x62#8 fun _ => stackBytes c, rfl, ?_⟩
  rw [State.changeStack_raisedOnBoth]; dsimp only
  split
  · exact .inr rfl
  · exact .inl rfl

theorem State.applyProfile_settles (s : State) (i : ProfileNo) (x : Profile) :
    (s.setProfile i x).Settles (s.applyProfile i x) := by
  have hwritten : (s.setProfile i x).Settles (if x = s.profile i then s.setProfile i x
      else if i = s.activeIndex then ((s.setProfile i x).mark .p).reevaluate else (s.setProfile i x).mark .p) := by
    split
    · exact .of_holdings rfl
    · split
      · exact ⟨(s.setProfile i x).mark .p, rfl, .inr rfl⟩
      · exact .of_holdings rfl
  exact hwritten.trans_holdings (by
    simp only [State.applyProfile, State.holdings_recomputeWarn, State.holdings_refreshIdle])

theorem State.holdings_restartFlash (s : State) : s.restartFlash.holdings = s.holdings := by
  unfold State.restartFlash; split <;> rfl

theorem State.applySettings_settles (s : State) (x : Settings) :
    ({ s with settings := x } : State).Settles (s.applySettings x) := by
  unfold State.applySettings; dsimp only
  have hstored : ∀ u : State, u.holdings = ({ s with settings := x } : State).holdings →
      ({ s with settings := x } : State).Settles
        (if x.tref = s.settings.tref then u else u.reevaluate).refreshIdle.recomputeWarn := fun u hu =>
    (State.settles_ite hu rfl).trans_holdings (by rw [State.holdings_recomputeWarn, State.holdings_refreshIdle])
  split
  · exact hstored _ (holdings_ite rfl rfl)
  · refine State.Settles.trans_holdings ?_ (State.holdings_restartFlash _)
    exact hstored _ (holdings_ite rfl rfl)

/-! ### WRITE AXLE (R32, R62, R118, R154) -/

theorem State.holdings_positions {s t : State} (h : t.holdings = s.holdings) : t.positions = s.positions :=
  congrArg Holdings.positions h

@[simp] theorem State.lowerAxle_positions (s : State) (a : AxleNo) : (s.lowerAxle a).positions = s.positions := rfl

/-- The positions of axle `a` that stop existing are emptied; their partners lose the IMBALANCE they shared. -/
theorem State.pos_changeKind (s : State) (a : AxleNo) (k : AxleKind) (q : Pos) : (s.changeKind a k).pos q =
    if s.stopsExisting a k q = true ∧ (s.pos q).assigned = true then Position.empty
    else if s.stopsExisting a k (partner q) = true ∧ (s.pos (partner q)).assigned = true then
      (s.pos q).withoutImbalance
    else s.pos q := by
  have hpos : (s.changeKind a k).pos q = ((s.setAxle a { s.axle a with kind := k }).resetAll
      (allPositions.filter (s.stopsExisting a k))).pos q := by
    refine State.pos_congr ?_ q
    unfold State.changeKind; dsimp only
    split
    · rw [State.lowerAxle_positions]; exact State.holdings_positions (State.holdings_removeFromTeach ..)
    · exact State.holdings_positions (State.holdings_removeFromTeach ..)
  rw [hpos, State.pos_resetAll]
  simp only [List.mem_filter, allPositions, List.mem_finRange, true_and]
  rfl

theorem State.axles_changeKind (s : State) (a : AxleNo) (k : AxleKind) :
    (s.changeKind a k).axles = (s.setAxle a { s.axle a with kind := k }).axles := by rw [State.changeKind_eq]

theorem State.foreign_changeKind (s : State) (a : AxleNo) (k : AxleKind) :
    (s.changeKind a k).foreign = s.foreign := by
  have hforeign : ∀ (u : State) (gone : Pos → Bool),
      (u.removeFromTeach gone true .complete).foreign = u.foreign := fun u gone => by rw [State.removeFromTeach_eq]
  unfold State.changeKind; dsimp only
  split
  · exact (hforeign _ _).trans (State.foreign_resetAll _ _)
  · exact (hforeign _ _).trans (State.foreign_resetAll _ _)

/-- An axle takes its kind, the same or a new one. -/
def State.takeKind (s : State) (a : AxleNo) (k : AxleKind) : State :=
  if k = (s.axle a).kind then s else s.changeKind a k

theorem State.setAxle_self {s : State} {a : AxleNo} {x : Axle} (h : x = s.axle a) : s.setAxle a x = s := by
  subst h
  simp only [State.setAxle, State.axle, Vector.set_getElem_self]

theorem State.axles_takeKind (s : State) (a : AxleNo) (k : AxleKind) :
    (s.takeKind a k).axles = (s.setAxle a { s.axle a with kind := k }).axles := by
  unfold State.takeKind
  split
  · next h => rw [State.setAxle_self (by rw [h])]
  · exact s.axles_changeKind a k

theorem State.foreign_takeKind (s : State) (a : AxleNo) (k : AxleKind) :
    (s.takeKind a k).foreign = s.foreign := by
  unfold State.takeKind
  split
  · rfl
  · exact s.foreign_changeKind a k

theorem State.stopsExisting_same (s : State) (a : AxleNo) (p : Pos) :
    s.stopsExisting a (s.axle a).kind p = false := by
  rw [← Bool.not_eq_true, State.stopsExisting, Bool.and_eq_true, Bool.and_eq_true, beq_iff_eq]
  rintro ⟨⟨rfl, hexists⟩, hgone⟩
  rw [State.posExists] at hexists
  rw [hexists] at hgone
  cases hgone

theorem State.pos_takeKind (s : State) (a : AxleNo) (k : AxleKind) (q : Pos) : (s.takeKind a k).pos q =
    if s.stopsExisting a k q = true ∧ (s.pos q).assigned = true then Position.empty
    else if s.stopsExisting a k (partner q) = true ∧ (s.pos (partner q)).assigned = true then
      (s.pos q).withoutImbalance
    else s.pos q := by
  unfold State.takeKind
  split
  · next h =>
    subst h
    simp only [State.stopsExisting_same, Bool.false_eq_true, false_and, if_false]
  · exact s.pos_changeKind a k q

/-- A sensor whose position is not assigned is none. -/
theorem Position.sensor_of_not_assigned {x : Position} (h : ¬ x.assigned = true) : x.sensor = none := by
  rw [← Option.not_isSome_iff_eq_none]
  exact fun hs => h (by rw [Position.assigned, hs, Bool.true_or])

theorem State.sensors_takeKind (s : State) (a : AxleNo) (k : AxleKind) (q : Pos) :
    (s.takeKind a k).sensors q = if s.stopsExisting a k q then none else s.sensors q := by
  rw [State.sensors, State.pos_takeKind]
  by_cases hgone : s.stopsExisting a k q = true
  · rw [if_pos hgone]
    by_cases ha : (s.pos q).assigned = true
    · rw [if_pos ⟨hgone, ha⟩]; rfl
    · rw [if_neg fun h => ha h.2]
      split <;> exact Position.sensor_of_not_assigned ha
  · rw [if_neg hgone, if_neg fun h => hgone h.1]
    split <;> rfl

/-- The record that a WRITE AXLE with kind `k` leaves of its axle (R154). -/
def State.axleWritten (s : State) (w : AxleWrite) (k : AxleKind) : Axle :=
  w.targets { s.axle w.axle with kind := k }

theorem State.axle_takeKind_same (s : State) (a : AxleNo) (k : AxleKind) :
    (s.takeKind a k).axle a = { s.axle a with kind := k } := by
  rw [State.axle_congr (s.axles_takeKind a k), State.axle_setAxle_same]

theorem State.axle_takeKind_ne (s : State) {a b : AxleNo} (k : AxleKind) (h : b ≠ a) :
    (s.takeKind a k).axle b = s.axle b := by
  rw [State.axle_congr (s.axles_takeKind a k), State.axle_setAxle_ne _ _ h]

/-- A WRITE AXLE: the kind, the record with its targets, the changed mark, and where a target changed the
re-evaluation (R154, R75, R150). -/
theorem State.applyAxle_eq (s : State) (w : AxleWrite) (k : AxleKind) : s.applyAxle w k =
    let x := s.axleWritten w k
    let written := (s.takeKind w.axle k).setAxle w.axle x
    let marked := if x = s.axle w.axle then written else written.mark (sectionOf (truckAxle w.axle))
    (if x.unladen = (s.axle w.axle).unladen ∧ x.laden = (s.axle w.axle).laden then marked
      else marked.reevaluate).refreshIdle.recomputeWarn := by
  rw [State.axleWritten, ← State.axle_takeKind_same]
  rfl

theorem State.applyAxle_settles (s : State) (w : AxleWrite) (k : AxleKind) :
    ((s.takeKind w.axle k).setAxle w.axle (s.axleWritten w k)).Settles (s.applyAxle w k) := by
  rw [State.applyAxle_eq]; dsimp only
  exact (State.settles_ite (holdings_ite rfl (State.holdings_mark _ _)) rfl).trans_holdings (by
    rw [State.holdings_recomputeWarn, State.holdings_refreshIdle])

/-! ### CLEAR SECTION (R155) -/

/-- The part with every axle of a section ABSENT and none of them lifted. -/
def State.sectionAbsent (s : State) (truck : Bool) : State :=
  { s with
    axles := Vector.ofFn fun (a : AxleNo) =>
      if truckAxle a == truck then { s.axle a with kind := .absent } else s.axle a
    context := if truck then { s.context with truckLifted := 0 } else { s.context with trailerLifted := 0 } }

theorem State.axle_sectionAbsent (s : State) (truck : Bool) (a : AxleNo) : (s.sectionAbsent truck).axle a =
    if truckAxle a = truck then { s.axle a with kind := .absent } else s.axle a := by
  simp only [State.axle, State.sectionAbsent, Vector.getElem_ofFn, beq_iff_eq]

theorem State.pos_sectionAbsent (s : State) (truck : Bool) (p : Pos) : (s.sectionAbsent truck).pos p = s.pos p := by
  simp only [State.pos, State.sectionAbsent]

theorem State.holdings_clearVehicleSection (s : State) (truck : Bool) :
    (s.clearVehicleSection truck).holdings =
      ((s.sectionAbsent truck).resetAll (allPositions.filter fun p => inTruck p == truck)).holdings := by
  unfold State.clearVehicleSection; dsimp only
  rw [← State.sectionAbsent]
  exact holdings_ite ((State.holdings_mark _ _).trans (State.holdings_removeFromTeach ..))
    (State.holdings_removeFromTeach ..)

theorem State.pos_clearVehicleSection (s : State) (truck : Bool) (q : Pos) :
    (s.clearVehicleSection truck).pos q =
      if inTruck q = truck then (if (s.pos q).assigned = true then Position.empty
        else if (s.pos (partner q)).assigned = true then (s.pos q).withoutImbalance else s.pos q)
      else s.pos q := by
  rw [State.pos_congr (State.holdings_positions (s.holdings_clearVehicleSection truck)), State.pos_resetAll]
  simp only [List.mem_filter, allPositions, List.mem_finRange, true_and, beq_iff_eq, State.pos_sectionAbsent,
    inTruck_partner]
  by_cases h : inTruck q = truck
  · simp only [h, true_and, if_true]
  · simp only [h, false_and, if_false]

theorem State.sensors_clearVehicleSection (s : State) (truck : Bool) (q : Pos) :
    (s.clearVehicleSection truck).sensors q = if inTruck q = truck then none else s.sensors q := by
  rw [State.sensors, State.pos_clearVehicleSection]
  split
  · split
    · rfl
    · next ha => split <;> exact Position.sensor_of_not_assigned ha
  · rfl

theorem State.axles_clearVehicleSection (s : State) (truck : Bool) :
    (s.clearVehicleSection truck).axles = (s.sectionAbsent truck).axles :=
  (congrArg Holdings.axles (s.holdings_clearVehicleSection truck)).trans (by
    rw [State.resetAll_eq]; rfl)

theorem State.foreign_clearVehicleSection (s : State) (truck : Bool) :
    (s.clearVehicleSection truck).foreign = s.foreign :=
  (congrArg Holdings.foreign (s.holdings_clearVehicleSection truck)).trans (State.foreign_resetAll _ _)

/-! ### The end of STARTING (R35, R57, R159) -/

/-- The ID taken at a place is the valid one listed there, for a position that exists, that no place before it took
(R35). -/
theorem takeIds_eq_some {there : Nat → Bool} {n : Nat} {taken : List SensorId} {ids : List (Option SensorId)}
    {i : Nat} {id : SensorId} : (takeIds there n taken ids)[i]? = some (some id) ↔
      ids[i]? = some (some id) ∧ validId id = true ∧ there (n + i) = true ∧ id ∉ taken ∧
        ∀ j, j < i → (takeIds there n taken ids)[j]? ≠ some (some id) := by
  induction ids generalizing n taken i with
  | nil => simp [takeIds]
  | cons x rest ih =>
    have hnext : n + 1 + i = n + (i + 1) := by omega
    have hskipped : ∀ i, (none :: takeIds there (n + 1) taken rest)[i + 1]? = some (some id) ↔
        rest[i]? = some (some id) ∧ validId id = true ∧ there (n + (i + 1)) = true ∧ id ∉ taken ∧
          ∀ j, j < i + 1 → (none :: takeIds there (n + 1) taken rest)[j]? ≠ some (some id) := by
      intro i
      rw [List.getElem?_cons_succ, ih, show n + 1 + i = n + (i + 1) by omega, Nat.forall_lt_succ_left]
      simp
    match x, i with
    | none, 0 => simp [takeIds]
    | none, i + 1 => rw [takeIds, List.getElem?_cons_succ (l := rest)]; exact hskipped i
    | some y, 0 =>
      simp only [takeIds]
      by_cases hy : (validId y && there n && !taken.contains y) = true
      · rw [if_pos hy]
        simp only [Bool.and_eq_true, Bool.not_eq_true', List.contains_eq_mem, decide_eq_false_iff_not] at hy
        obtain ⟨⟨hvalid, hthere⟩, hnew⟩ := hy
        simp only [List.getElem?_cons_zero, Option.some.injEq, Nat.add_zero, hthere, true_and, Nat.not_lt_zero,
          false_implies, implies_true, and_true]
        exact ⟨fun h => ⟨h, h ▸ hvalid, h ▸ hnew⟩, fun h => h.1⟩
      · rw [if_neg hy]
        simp only [Bool.and_eq_true, Bool.not_eq_true', List.contains_eq_mem, decide_eq_false_iff_not] at hy
        simp only [List.getElem?_cons_zero, Option.some.injEq, reduceCtorEq, false_iff, Nat.add_zero]
        rintro ⟨rfl, hvalid, hthere, hnew, -⟩
        exact hy ⟨⟨hvalid, hthere⟩, hnew⟩
    | some y, i + 1 =>
      simp only [takeIds]
      by_cases hy : (validId y && there n && !taken.contains y) = true
      · rw [if_pos hy, List.getElem?_cons_succ, List.getElem?_cons_succ, ih,
          show n + 1 + i = n + (i + 1) by omega, Nat.forall_lt_succ_left]
        simp only [List.getElem?_cons_zero, List.getElem?_cons_succ, List.mem_cons, not_or, ne_eq, Option.some.injEq,
          eq_comm (a := id) (b := y)]
        tauto
      · rw [if_neg hy, List.getElem?_cons_succ (l := rest)]; exact hskipped i

/-- The axles that the sections T and L of the store give, each failing section its factory defaults (R159). -/
def State.storedAxles (s : State) : List Axle :=
  ((checkSection readTableImage s.store.t).getD TableImage.factory).axles ++
    ((checkSection readTableImage s.store.l).getD TableImage.factory).axles

/-- The IDs that the sections T and L of the store give (R159). -/
def State.storedIds (s : State) : List (Option SensorId) :=
  ((checkSection readTableImage s.store.t).getD TableImage.factory).ids ++
    ((checkSection readTableImage s.store.l).getD TableImage.factory).ids

/-- What section P of the store gives (R159). -/
def State.storedSettings (s : State) : SettingsImage :=
  (checkSection readSettingsSection s.store.p).getD SettingsImage.factory

theorem State.axle_startRunning (s : State) (a : AxleNo) :
    s.startRunning.axle a = (s.storedAxles[a.val]?).getD Axle.factory := by
  simp only [State.axle, State.startRunning, State.loadStore, Vector.getElem_ofFn]
  rfl

/-- The IDs taken at the end of STARTING (R35). -/
def State.takenIds (s : State) : List (Option SensorId) :=
  takeIds (fun n => match posOfCode n with
    | some q => s.startRunning.posExists q
    | none => false) 0 [] s.storedIds

theorem State.pos_startRunning (s : State) (p : Pos) : s.startRunning.pos p =
    loadedPosition p ((s.takenIds[p.val]?).getD none) s.trl s.tick := by
  simp only [State.takenIds, State.posExists, State.axle_startRunning]
  simp only [State.pos, State.startRunning, State.loadStore, Vector.getElem_ofFn]
  rfl

theorem State.profile_startRunning (s : State) (i : ProfileNo) :
    s.startRunning.profile i = (s.storedSettings.profiles[i.val]?).getD Profile.default := by
  simp only [State.profile, State.startRunning, State.loadStore, Vector.getElem_ofFn]
  rfl

/-- The ID at a position after STARTING is the stored one, where it is valid, the position exists and no position
before it holds it (R35). -/
theorem State.sensor_startRunning {s : State} {p : Pos} {id : SensorId} :
    (s.startRunning.pos p).sensor = some id ↔ s.storedIds[p.val]? = some (some id) ∧ validId id = true ∧
      s.startRunning.posExists p = true ∧ ∀ q : Pos, q.val < p.val → (s.startRunning.pos q).sensor ≠ some id := by
  have htaken : ∀ q : Pos, (s.startRunning.pos q).sensor = some id ↔ s.takenIds[q.val]? = some (some id) := by
    intro q
    rw [State.pos_startRunning, loadedPosition_sensor]
    cases s.takenIds[q.val]? with
    | none => simp
    | some x => simp
  have hcode : posOfCode (0 + p.val) = some p := by rw [Nat.zero_add, posOfCode, dif_pos p.isLt]
  simp only [htaken, ne_eq]
  rw [State.takenIds, takeIds_eq_some, ← State.takenIds, hcode]
  constructor
  · rintro ⟨hid, hvalid, hthere, -, hfirst⟩
    exact ⟨hid, hvalid, hthere, fun q hq => hfirst q.val hq⟩
  · rintro ⟨hid, hvalid, hthere, hfirst⟩
    exact ⟨hid, hvalid, hthere, List.not_mem_nil, fun j hj => hfirst ⟨j, hj.trans p.isLt⟩ hj⟩

/-! ### The law of the Foreign Sensor List (R44, R46) -/

theorem State.ForeignLaw.of_eq {s t : State} (hs : s.ForeignLaw) (hsensors : t.sensors = s.sensors)
    (hforeign : t.foreign = s.foreign) : t.ForeignLaw where
  room := hforeign ▸ hs.room
  distinct := hforeign ▸ hs.distinct
  foreign e he p hp := hs.foreign e (hforeign ▸ he) p ((congrFun hsensors p).symm.trans hp)
  hits := hforeign ▸ hs.hits

theorem State.sensors_of_holdings {s t : State} (h : t.holdings = s.holdings) : t.sensors = s.sensors :=
  State.sensors_congr (State.holdings_positions h)

theorem State.ForeignLaw.of_holdings {s t : State} (hs : s.ForeignLaw) (h : t.holdings = s.holdings) :
    t.ForeignLaw := hs.of_eq (State.sensors_of_holdings h) (congrArg Holdings.foreign h)

/-- Sensors taken away leave the law; one that comes must have left the list. -/
theorem State.ForeignLaw.of_assigned {s t : State} (hs : s.ForeignLaw) (id : Option SensorId)
    (hsensors : ∀ p x, t.sensors p = some x → s.sensors p = some x ∨ id = some x)
    (hforeign : t.foreign = foreignWithout s.foreign id) : t.ForeignLaw where
  room := by rw [hforeign]; exact (List.length_filter_le _ _).trans hs.room
  distinct := by rw [hforeign]; exact hs.distinct.filter _
  foreign e he p hp := by
    rw [hforeign, foreignWithout, List.mem_filter, bne_iff_ne] at he
    obtain hold | hnew := hsensors p e.id hp
    · exact hs.foreign e he.1 p hold
    · exact he.2 hnew.symm
  hits e he := hs.hits e (List.mem_filter.1 (hforeign ▸ he)).1

theorem foreignEntry_hits {old : Option ForeignEntry} (h : ∀ e, old = some e → 1 ≤ e.hits ∧ e.hits ≤ 255)
    (d : Delivery) : 1 ≤ (foreignEntry old d).hits ∧ (foreignEntry old d).hits ≤ 255 := by
  cases old with
  | none => exact ⟨Nat.le_refl 1, Nat.le_add_left 1 254⟩
  | some e => exact ⟨Nat.le_min.2 ⟨by decide, Nat.le_add_left 1 _⟩, Nat.min_le_left _ _⟩

theorem foreignEntry_id (old : Option ForeignEntry) (d : Delivery) : (foreignEntry old d).id = d.id := by
  cases old <;> rfl

/-- A delivery of an ID at no position takes its place at the front of the list (R45). -/
theorem State.ForeignLaw.of_hears {s t : State} (hs : s.ForeignLaw) {d : Delivery} (hnone : s.holder d.id = none)
    (hsensors : t.sensors = s.sensors) (hforeign : t.foreign = foreignUpdate s.foreign d) : t.ForeignLaw := by
  have hrest : ∀ e ∈ (s.foreign.filter fun e => e.id != d.id).take (Config.foreignCapacity - 1),
      e ∈ s.foreign ∧ e.id ≠ d.id := fun e he => by
    rw [← bne_iff_ne]
    exact List.mem_filter.1 (List.mem_of_mem_take he)
  refine ⟨?room, ?distinct, ?foreign, ?hits⟩
  case room =>
    rw [hforeign, foreignUpdate, List.length_cons, List.length_take]
    simp only [Config.foreignCapacity]
    omega
  case distinct =>
    rw [hforeign]
    refine List.Pairwise.cons (fun e he => ?_) ((hs.distinct.filter _).sublist (List.take_sublist _ _))
    rw [foreignEntry_id]
    exact (hrest e he).2.symm
  case foreign =>
    intro e he p hp
    rw [hforeign, foreignUpdate, List.mem_cons] at he
    have hold : (s.pos p).sensor = some e.id := (congrFun hsensors p).symm.trans hp
    obtain rfl | he := he
    · rw [foreignEntry_id] at hold
      exact State.holder_none.1 hnone p hold
    · exact hs.foreign e (hrest e he).1 p hold
  case hits =>
    intro e he
    rw [hforeign, foreignUpdate, List.mem_cons] at he
    obtain rfl | he := he
    · exact foreignEntry_hits (fun e he => hs.hits e (List.mem_of_find?_eq_some he)) d
    · exact hs.hits e (hrest e he).1

theorem State.ForeignLaw.delivered {s t : State} (hs : s.ForeignLaw) {d : Delivery} (h : s.Delivered d t) :
    t.ForeignLaw := by
  cases h with
  | keeps hsensors hforeign => exact hs.of_eq hsensors hforeign
  | hears hnone hsensors hforeign => exact hs.of_hears hnone hsensors hforeign
  | moves session h rest ht hq hk hne hsensors hforeign =>
    refine hs.of_assigned (some d.id) (fun p x hp => ?_) hforeign
    rw [hsensors, movedSensors] at hp
    split at hp
    · exact .inr hp
    · split at hp
      · cases hp
      · exact .inl hp

theorem State.Settles.sensors {u t : State} (h : u.Settles t) : t.sensors = u.sensors := by
  obtain ⟨v, hv, ht | ht⟩ := h
  · exact (State.sensors_of_holdings ht).trans (State.sensors_of_holdings hv)
  · rw [State.sensors_of_holdings ht, State.sensors_reevaluate, State.sensors_of_holdings hv]

theorem State.Settles.foreign {u t : State} (h : u.Settles t) : t.foreign = u.foreign := by
  obtain ⟨v, hv, ht | ht⟩ := h
  · exact (congrArg Holdings.foreign ht).trans (congrArg Holdings.foreign hv)
  · exact (congrArg Holdings.foreign ht).trans (v.reevaluate_foreign.trans (congrArg Holdings.foreign hv))

theorem State.ForeignLaw.settles {u t : State} (hu : u.ForeignLaw) (h : u.Settles t) : t.ForeignLaw :=
  hu.of_eq h.sensors h.foreign

theorem State.ForeignLaw.takenAway {s t : State} (hs : s.ForeignLaw)
    (hsensors : ∀ p x, t.sensors p = some x → s.sensors p = some x) (hforeign : t.foreign = s.foreign) :
    t.ForeignLaw :=
  hs.of_assigned none (fun p x hp => .inl (hsensors p x hp)) (hforeign.trans (foreignWithout_none _).symm)

theorem State.ForeignLaw.saturated {s : State} (hs : s.ForeignLaw) : s.saturated.ForeignLaw := by
  have hmem : ∀ e ∈ s.saturated.foreign, ∃ f ∈ s.foreign, f.id = e.id ∧ f.hits = e.hits := fun e he => by
    obtain ⟨f, hf, rfl⟩ := List.mem_map.1 he
    exact ⟨f, hf, rfl, rfl⟩
  refine ⟨?room, ?distinct, fun e he p hp => ?foreign, fun e he => ?hits⟩
  case room => exact (List.length_map _).trans_le hs.room
  case distinct => exact List.pairwise_map.2 hs.distinct
  case foreign =>
    obtain ⟨f, hf, hid, -⟩ := hmem e he
    exact hs.foreign f hf p (hid ▸ (congrFun s.sensors_saturated p).symm.trans hp)
  case hits =>
    obtain ⟨f, hf, -, hhits⟩ := hmem e he
    exact hhits ▸ hs.hits f hf

theorem State.ForeignLaw.moves {s u : State} {c : Instr} (hs : s.ForeignLaw) (h : s.Moves c u) : u.ForeignLaw := by
  cases h with
  | stays c => exact hs
  | restarts straps cut => exact reset_foreignLaw.of_eq rfl rfl
  | starts hp => exact ⟨Nat.zero_le _, .nil, nofun, nofun⟩
  | startsRaised change hp hc =>
    have hstarted : s.startRunning.ForeignLaw := ⟨Nat.zero_le _, .nil, nofun, nofun⟩
    exact (hstarted.of_eq rfl rfl : ({ s.startRunning with stack := change.stack } : State).ForeignLaw).settles
      (State.changeStack_settles _ change)
  | delivers c ready e later hm hh ht hg => exact (hs.of_holdings hh).delivered (ready.deliver_delivered _)
  | expires p hp => exact hs.of_eq (s.sensors_fallMissing p) (by rw [State.fallMissing_eq])
  | couples hp => exact hs.of_eq s.sensors_recouple (by rw [State.recouple_eq])
  | decouples hp => exact hs.of_eq s.sensors_decouple (by rw [State.decouple_eq])
  | restacks c ready change hh hc =>
    exact ((hs.of_holdings hh).of_eq rfl rfl : ({ ready with stack := change.stack } : State).ForeignLaw).settles
      (ready.changeStack_settles change)
  | acknowledges r ps => exact hs.of_eq (s.sensors_acknowledge r ps) (s.mapPos_foreign _)
  | holds r p hp => exact hs.of_eq (s.sensors_takeHold p) (by rw [State.takeHold_eq])
  | unholds r p hp => exact hs.of_eq (s.sensors_restoreHold p) (s.foreign_restoreHold p)
  | writesPosition r p id hr hid =>
    refine hs.of_assigned id (fun q x hq => ?_) rfl
    rw [State.sensors_recordReset] at hq
    split at hq
    · exact .inr hq
    · exact .inl hq
  | writesAxle r w k hr =>
    refine State.ForeignLaw.settles (hs.takenAway (fun q x hq => ?_) ?_) (s.applyAxle_settles w k)
    · have hkind : (s.takeKind w.axle k).sensors q = some x := hq
      rw [State.sensors_takeKind] at hkind
      split at hkind
      · cases hkind
      · exact hkind
    · exact s.foreign_takeKind w.axle k
  | writesProfile r w hr =>
    exact (hs.of_eq rfl rfl : (s.setProfile _ _).ForeignLaw).settles (s.applyProfile_settles _ _)
  | writesSettings r w x hr hx =>
    exact (hs.of_eq rfl rfl : ({ s with settings := x } : State).ForeignLaw).settles (s.applySettings_settles x)
  | clears r truck hr =>
    refine hs.takenAway (fun q x hq => ?_) (s.foreign_clearVehicleSection truck)
    rw [State.sensors_clearVehicleSection] at hq
    split at hq
    · cases hq
    · exact hq
  | takesContext r hp => exact hs.of_eq (State.sensors_reevaluate _) (State.reevaluate_foreign _)
  | saturates => exact hs.saturated

/-- Settles O51: each move of the wheel table keeps the law. -/
theorem stepKeepsForeignLaw : Obligations.StepKeepsForeignLaw := by
  intro s t hs hstep
  obtain hstays | ⟨c, rest, -, u, hmove, ht⟩ := step_moves hstep
  · exact hs.of_holdings hstays
  · have hrest : ({ s with pending := rest } : State).ForeignLaw := hs.of_holdings rfl
    exact (hrest.moves hmove).of_holdings ht

/-! ### The law of the sensor IDs (R32, R35) -/

theorem State.IdentityLaw.of_eq {s t : State} (hs : s.IdentityLaw) (hsensors : t.sensors = s.sensors)
    (haxles : t.axles = s.axles) : t.IdentityLaw where
  valid p id h := hs.valid p id ((congrFun hsensors p).symm.trans h)
  present p h := by
    rw [State.posExists_congr haxles]
    exact hs.present p (congrArg Option.isSome (congrFun hsensors p) ▸ h)
  distinct p q id hp hq :=
    hs.distinct p q id ((congrFun hsensors p).symm.trans hp) ((congrFun hsensors q).symm.trans hq)

theorem State.IdentityLaw.of_holdings {s t : State} (hs : s.IdentityLaw) (h : t.holdings = s.holdings) :
    t.IdentityLaw := hs.of_eq (State.sensors_of_holdings h) (congrArg Holdings.axles h)

/-- Sensors taken away leave the law, where the positions of those that stay go on existing. -/
theorem State.IdentityLaw.takenAway {s t : State} (hs : s.IdentityLaw)
    (hsensors : ∀ p x, t.sensors p = some x → s.sensors p = some x)
    (hthere : ∀ p x, t.sensors p = some x → s.posExists p = true → t.posExists p = true) : t.IdentityLaw where
  valid p id h := hs.valid p id (hsensors p id h)
  present p h := by
    obtain ⟨x, hx⟩ := Option.isSome_iff_exists.1 h
    exact hthere p x hx (hs.present p (Option.isSome_iff_exists.2 ⟨x, hsensors p x hx⟩))
  distinct p q id hp hq := hs.distinct p q id (hsensors p id hp) (hsensors q id hq)

/-- A valid ID that comes to a position that exists, and stands nowhere else, leaves the law. -/
theorem State.IdentityLaw.of_moved {s t : State} (hs : s.IdentityLaw) (h : Pos) (id : Option SensorId)
    (hsensors : ∀ p x, t.sensors p = some x → (s.sensors p = some x ∧ id ≠ some x) ∨ (p = h ∧ id = some x))
    (hid : ∀ x, id = some x → validId x = true ∧ s.posExists h = true) (haxles : t.axles = s.axles) :
    t.IdentityLaw where
  valid p x hp := by
    obtain ⟨hold, -⟩ | ⟨-, hnew⟩ := hsensors p x hp
    · exact hs.valid p x hold
    · exact (hid x hnew).1
  present p hp := by
    obtain ⟨x, hx⟩ := Option.isSome_iff_exists.1 hp
    rw [State.posExists_congr haxles]
    obtain ⟨hold, -⟩ | ⟨rfl, hnew⟩ := hsensors p x hx
    · exact hs.present p (Option.isSome_iff_exists.2 ⟨x, hold⟩)
    · exact (hid x hnew).2
  distinct p q x hp hq := by
    obtain ⟨hold, hother⟩ | ⟨rfl, hnew⟩ := hsensors p x hp
    · obtain ⟨hold', -⟩ | ⟨-, hnew⟩ := hsensors q x hq
      · exact hs.distinct p q x hold hold'
      · exact absurd hnew hother
    · obtain ⟨-, hother⟩ | ⟨rfl, -⟩ := hsensors q x hq
      · exact absurd hnew hother
      · rfl

theorem State.Settles.axles {u t : State} (h : u.Settles t) : t.axles = u.axles := by
  obtain ⟨v, hv, ht | ht⟩ := h
  · exact (congrArg Holdings.axles ht).trans (congrArg Holdings.axles hv)
  · exact (congrArg Holdings.axles ht).trans (v.reevaluate_axles.trans (congrArg Holdings.axles hv))

theorem State.IdentityLaw.settles {u t : State} (hu : u.IdentityLaw) (h : u.Settles t) : t.IdentityLaw :=
  hu.of_eq h.sensors h.axles

theorem State.IdentityLaw.startRunning (s : State) : s.startRunning.IdentityLaw where
  valid p id h := (State.sensor_startRunning.1 h).2.1
  present p h := by
    obtain ⟨id, hid⟩ := Option.isSome_iff_exists.1 h
    exact (State.sensor_startRunning.1 hid).2.2.1
  distinct p q id hp hq := by
    obtain ⟨-, -, -, hfirstp⟩ := State.sensor_startRunning.1 hp
    obtain ⟨-, -, -, hfirstq⟩ := State.sensor_startRunning.1 hq
    obtain hlt | heq | hgt := Nat.lt_trichotomy p.val q.val
    · exact absurd hp (hfirstq p hlt)
    · exact Fin.ext heq
    · exact absurd hq (hfirstp q hgt)

theorem State.IdentityLaw.delivered {s t : State} (hs : s.IdentityLaw) {d : Delivery} (hd : validId d.id = true)
    (hteach : s.TeachLaw) (haxles : t.axles = s.axles) (h : s.Delivered d t) : t.IdentityLaw := by
  cases h with
  | keeps hsensors hforeign => exact hs.of_eq hsensors haxles
  | hears hnone hsensors hforeign => exact hs.of_eq hsensors haxles
  | moves session h rest ht hq hk hne hsensors hforeign =>
    have hexists : s.posExists h = true := (hteach.session session ht).existing h (by rw [hq]; simp)
    refine hs.of_moved h (some d.id) (fun p x hp => ?_) (fun x hx => ?_) haxles
    · rw [hsensors, movedSensors] at hp
      split at hp
      · next hph => exact .inr ⟨hph, hp⟩
      · split at hp
        · cases hp
        · next hkept => exact .inl ⟨hp, fun hx => hkept (hs.holder_eq (hp.trans hx.symm))⟩
    · exact ⟨Option.some.inj hx ▸ hd, hexists⟩

/-- What an ID that WRITE POSITION does not refuse is (R153). -/
theorem State.idRefused_eq_false {s : State} {p : Pos} {id : Option SensorId} :
    s.idRefused p id = false ↔ ∀ x, id = some x →
      validId x = true ∧ s.posExists p = true ∧ ∀ q, q ≠ p → (s.pos q).sensor ≠ some x := by
  cases id with
  | none => simp [State.idRefused]
  | some x =>
    simp only [State.idRefused, allPositions, Bool.or_eq_false_iff, Bool.not_eq_false', List.any_eq_false,
      List.mem_finRange, Bool.and_eq_true, bne_iff_ne, beq_iff_eq, not_and, forall_const, Option.some.injEq,
      forall_eq', and_assoc]

theorem State.posExists_axleWritten {s t : State} {w : AxleWrite} {k : AxleKind} {p : Pos}
    (ht : t.axles = ((s.takeKind w.axle k).setAxle w.axle (s.axleWritten w k)).axles) :
    t.posExists p = slotExists (if axleOf p = w.axle then k else (s.axle (axleOf p)).kind) (slotOf p) := by
  rw [State.posExists_congr ht, State.posExists, State.axle_setAxle]
  split
  · rfl
  · next h => rw [State.axle_takeKind_ne s k h]

/-- A sensor that a WRITE AXLE leaves stands at a position that goes on existing (R32). -/
theorem State.exists_of_takeKind {s : State} {a : AxleNo} {k : AxleKind} {p : Pos} {x : SensorId}
    (hp : (s.takeKind a k).sensors p = some x) (hs : s.posExists p = true) :
    slotExists (if axleOf p = a then k else (s.axle (axleOf p)).kind) (slotOf p) = true := by
  rw [State.sensors_takeKind] at hp
  split at hp
  · cases hp
  · next hstays =>
    split
    · next ha =>
      rw [State.stopsExisting, ha, hs] at hstays
      simpa using hstays
    · exact hs

theorem State.IdentityLaw.moves {s u : State} {c : Instr} (hs : s.IdentityLaw) (hmerge : s.MergeLaw)
    (hteach : s.TeachLaw) (h : s.Moves c u) : u.IdentityLaw := by
  cases h with
  | stays c => exact hs
  | restarts straps cut => exact reset_identityLaw.of_eq rfl rfl
  | starts hp => exact .startRunning s
  | startsRaised change hp hc =>
    exact ((State.IdentityLaw.startRunning s).of_eq rfl rfl :
      ({ s.startRunning with stack := change.stack } : State).IdentityLaw).settles (State.changeStack_settles _ change)
  | delivers c ready e later hm hh ht hg =>
    have hready : ready.TeachLaw := by
      refine ⟨fun t hsession => ?_, fun hp => ht.trans (hteach.starting ((congrArg Holdings.phase hh).symm.trans hp))⟩
      have hlaw := hteach.session t (ht.symm.trans hsession)
      have hexists := fun p => State.posExists_congr (congrArg Holdings.axles hh) p
      exact { hlaw with
        existing := fun p hp => (hexists p).trans (hlaw.existing p hp)
        coupled := fun p hp => (hlaw.coupled p hp).imp_right (congrArg Holdings.trailerPresent hh).trans }
    have hid : validId e.delivery.id = true := (hmerge.entries e (hm ▸ List.mem_cons_self)).id
    exact (hs.of_holdings hh).delivered hid hready (by rw [State.deliver_eq]) (ready.deliver_delivered _)
  | expires p hp => exact hs.of_eq (s.sensors_fallMissing p) (by rw [State.fallMissing_eq])
  | couples hp => exact hs.of_eq s.sensors_recouple (by rw [State.recouple_eq])
  | decouples hp => exact hs.of_eq s.sensors_decouple (by rw [State.decouple_eq])
  | restacks c ready change hh hc =>
    exact ((hs.of_holdings hh).of_eq rfl rfl : ({ ready with stack := change.stack } : State).IdentityLaw).settles
      (ready.changeStack_settles change)
  | acknowledges r ps => exact hs.of_eq (s.sensors_acknowledge r ps) (s.mapPos_axles _)
  | holds r p hp => exact hs.of_eq (s.sensors_takeHold p) (by rw [State.takeHold_eq])
  | unholds r p hp => exact hs.of_eq (s.sensors_restoreHold p) (by rw [State.restoreHold_eq])
  | writesPosition r p id hr hid =>
    have hok := State.idRefused_eq_false.1 hid
    refine hs.of_moved p id (fun q x hq => ?_) (fun x hx => ⟨(hok x hx).1, (hok x hx).2.1⟩) rfl
    rw [State.sensors_recordReset] at hq
    split at hq
    · next hqp => exact .inr ⟨hqp, hq⟩
    · next hqp => exact .inl ⟨hq, fun hx => (hok x hx).2.2 q hqp hq⟩
  | writesAxle r w k hr =>
    refine State.IdentityLaw.settles (hs.takenAway (fun q x hq => ?_) fun q x hq hexists => ?_)
      (s.applyAxle_settles w k)
    · have hkind : (s.takeKind w.axle k).sensors q = some x := hq
      rw [State.sensors_takeKind] at hkind
      split at hkind
      · cases hkind
      · exact hkind
    · rw [State.posExists_axleWritten rfl]
      exact State.exists_of_takeKind hq hexists
  | writesProfile r w hr =>
    exact (hs.of_eq rfl rfl : (s.setProfile _ _).IdentityLaw).settles (s.applyProfile_settles _ _)
  | writesSettings r w x hr hx =>
    exact (hs.of_eq rfl rfl : ({ s with settings := x } : State).IdentityLaw).settles (s.applySettings_settles x)
  | clears r truck hr =>
    refine hs.takenAway (fun q x hq => ?_) fun q x hq hexists => ?_
    · rw [State.sensors_clearVehicleSection] at hq
      split at hq
      · cases hq
      · exact hq
    · rw [State.sensors_clearVehicleSection] at hq
      split at hq
      · cases hq
      · next hother =>
        rw [State.posExists_congr (s.axles_clearVehicleSection truck), State.posExists, State.axle_sectionAbsent,
          ← inTruck_eq_truckAxle, if_neg hother]
        exact hexists
  | takesContext r hp => exact hs.of_eq (State.sensors_reevaluate _) (State.reevaluate_axles _)
  | saturates => exact hs.of_eq s.sensors_saturated (by rw [State.saturated_frame])

/-- Settles O52: each move of the wheel table keeps the law, a delivery's by the laws of the Merge Buffer and of the
session. -/
theorem stepKeepsIdentityLaw : Obligations.StepKeepsIdentityLaw := by
  intro s t hmerge hteach hs hstep
  obtain hstays | ⟨c, rest, -, u, hmove, ht⟩ := step_moves hstep
  · exact hs.of_holdings hstays
  · have hrest : ({ s with pending := rest } : State).IdentityLaw := hs.of_holdings rfl
    have hlaw : ({ s with pending := rest } : State).TeachLaw :=
      ⟨fun session h => { hteach.session session h with }, hteach.starting⟩
    exact (hrest.moves (hmerge.of_merge rfl) hlaw hmove).of_holdings ht

/-! ### The values held within limits (R31, R58, R62, R93, R98, R156) -/

/-- What the laws of stack, ranges and lifted axles speak of. -/
structure Values where
  phase : Phase
  axles : Vector Axle 8
  context : Context
  profiles : Vector Profile 6
  stack : List StackEntry
  settings : Settings

def State.values (s : State) : Values :=
  { phase := s.phase, axles := s.axles, context := s.context, profiles := s.profiles, stack := s.stack
    settings := s.settings }

theorem State.values_of_holdings {s t : State} (h : t.holdings = s.holdings) : t.values = s.values :=
  congrArg (fun x : Holdings => ({ phase := x.phase, axles := x.axles, context := x.context, profiles := x.profiles
                                   stack := x.stack, settings := x.settings } : Values)) h

theorem State.values_reevaluate (s : State) : s.reevaluate.values = s.values := by
  rw [State.reevaluate_eq]; simp only [State.values]

theorem State.Settles.values {u t : State} (h : u.Settles t) : t.values = u.values := by
  obtain ⟨v, hv, ht | ht⟩ := h
  · exact (State.values_of_holdings ht).trans (State.values_of_holdings hv)
  · exact (State.values_of_holdings ht).trans (v.values_reevaluate.trans (State.values_of_holdings hv))

theorem State.values_deliver (s : State) (d : Delivery) : (s.deliver d).values = s.values := by
  rw [State.deliver_eq]; simp only [State.values]

/-- The laws of the stack, of the ranges and of the lifted axles together. -/
structure State.ValueLaws (s : State) : Prop where
  stack : s.StackLaw
  range : s.RangeLaw
  lift : s.LiftLaw

theorem State.lifted_congr {s t : State} (h : t.context = s.context) (a : AxleNo) : t.lifted a = s.lifted a := by
  simp only [State.lifted, h]

theorem State.ValueLaws.of_values {s t : State} (hs : s.ValueLaws) (h : t.values = s.values) : t.ValueLaws := by
  obtain ⟨hphase, haxles, hcontext, hprofiles, hstack, hsettings⟩ := Values.mk.inj h
  refine ⟨⟨?_, ?_⟩, ⟨fun a => ?_, fun i => ?_, ?_, ?_⟩, ⟨fun a ha => ?_, fun hp a => ?_⟩⟩
  · rw [hstack]; exact hs.stack.depth
  · rw [hstack]; exact hs.stack.bottom
  · rw [State.axle_congr haxles]; exact hs.range.axles a
  · rw [State.profile_congr hprofiles]; exact hs.range.profiles i
  · rw [hsettings]; exact hs.range.settings
  · rw [hcontext]; exact hs.range.context
  · rw [State.axle_congr haxles]
    rw [State.lifted_congr hcontext] at ha
    exact hs.lift.absent a ha
  · rw [State.lifted_congr hcontext]
    exact hs.lift.starting (hphase.symm.trans hp) a

/-! The stack. -/

theorem StackMove.depth {stack : List StackEntry} {c : StackChange}
    (h : 1 ≤ stack.length ∧ stack.length ≤ Config.stackCapacity) (hc : StackMove stack c) :
    1 ≤ c.stack.length ∧ c.stack.length ≤ Config.stackCapacity := by
  have hcapacity : Config.stackCapacity = 3 := rfl
  cases hc with
  | pushes e cause port he =>
    simp only [pushChange, List.length_append, List.length_singleton]
    by_cases hfull : stack.length ≥ Config.stackCapacity
    · rw [if_pos hfull, List.length_tail]; omega
    · rw [if_neg hfull]; omega
  | removes o cause port c hc =>
    unfold popChange at hc
    split at hc
    · obtain rfl := Option.some.inj hc
      have hleft : (withoutTopmost stack o).length ≤ stack.length := by
        rw [withoutTopmost, List.length_reverse]
        exact (List.length_eraseP_le).trans_eq List.length_reverse
      dsimp only
      split
      · exact ⟨Nat.le_refl 1, by decide⟩
      · next hne =>
        exact ⟨List.length_pos_iff.2 (by simpa using hne), hleft.trans h.2⟩
    · cases hc

theorem withoutTopmost_sublist (stack : List StackEntry) (o : Origin) : (withoutTopmost stack o).Sublist stack := by
  have herased := (List.eraseP_sublist (p := hasOrigin o) (l := stack.reverse)).reverse
  rwa [List.reverse_reverse] at herased

theorem StackMove.bottom {stack : List StackEntry} {c : StackChange} (hlen : 1 ≤ stack.length)
    (h : ∀ e ∈ stack.tail, e.origin ≠ .reset) (hc : StackMove stack c) : ∀ e ∈ c.stack.tail, e.origin ≠ .reset := by
  cases hc with
  | pushes e cause port he =>
    intro f hf
    have hkept : f ∈ stack.tail ∨ f = e := by
      obtain ⟨bottom, rest, rfl⟩ := List.exists_cons_of_length_pos hlen
      simp only [pushChange] at hf
      split at hf
      · exact (List.mem_append.1 (List.mem_of_mem_tail hf)).imp_right List.mem_singleton.1
      · exact (List.mem_append.1 hf).imp_right List.mem_singleton.1
    obtain hold | rfl := hkept
    · exact h f hold
    · exact he
  | removes o cause port c hc =>
    unfold popChange at hc
    split at hc
    · obtain rfl := Option.some.inj hc
      intro f hf
      dsimp only at hf
      split at hf
      · cases hf
      · exact h f ((withoutTopmost_sublist stack o).tail.subset hf)
    · cases hc

theorem State.ValueLaws.restacked {s : State} (hs : s.ValueLaws) {c : StackChange} (hc : StackMove s.stack c) :
    ({ s with stack := c.stack } : State).ValueLaws where
  stack := ⟨hc.depth hs.stack.depth, hc.bottom hs.stack.depth.1 hs.stack.bottom⟩
  range := ⟨hs.range.axles, hs.range.profiles, hs.range.settings, hs.range.context⟩
  lift := ⟨hs.lift.absent, hs.lift.starting⟩

/-! What a load reads. -/

theorem inRange_eq_some {lo hi n m : Nat} : inRange lo hi n = some m ↔ n = m ∧ lo ≤ n ∧ n ≤ hi := by
  unfold inRange
  split
  · next h => simp [h]
  · next h => simp [h]

theorem readAxleImage_lawful {bytes rest : List Byte} {x : Axle} (h : readAxleImage bytes = some (x, rest)) :
    x.Lawful := by
  unfold readAxleImage at h
  split at h
  · split at h
    · next hunladen hladen =>
      obtain ⟨rfl, hu⟩ := inRange_eq_some.1 hunladen
      obtain ⟨rfl, hl⟩ := inRange_eq_some.1 hladen
      obtain ⟨rfl, -⟩ := Prod.mk.inj (Option.some.inj h)
      exact ⟨hu, hl⟩
    · cases h
  · cases h

theorem readProfileImage_lawful {bytes rest : List Byte} {x : Profile} (h : readProfileImage bytes = some (x, rest)) :
    x.Lawful := by
  unfold readProfileImage at h
  split at h
  · dsimp only at h
    split at h
    · next hranges =>
      obtain ⟨rfl, -⟩ := Prod.mk.inj (Option.some.inj h)
      obtain ⟨-, hranges⟩ := hranges
      constructor <;> dsimp only <;> omega
    · cases h
  · cases h

theorem readSettingsImage_lawful {bytes rest : List Byte} {x : Settings}
    (h : readSettingsImage bytes = some (x, rest)) : x.Lawful := by
  unfold readSettingsImage at h
  split at h
  · split at h
    · split at h
      · next hranges =>
        obtain ⟨rfl, -⟩ := Prod.mk.inj (Option.some.inj h)
        constructor <;> dsimp only <;> omega
      · cases h
    · cases h
  · cases h

theorem readMany_forall {α : Type} {P : α → Prop} {read : List Byte → Option (α × List Byte)}
    (hread : ∀ bytes x rest, read bytes = some (x, rest) → P x) {n : Nat} {bytes rest : List Byte} {xs : List α}
    (h : readMany read n bytes = some (xs, rest)) : ∀ x ∈ xs, P x := by
  induction n generalizing bytes xs rest with
  | zero => cases h; nofun
  | succ n ih =>
    unfold readMany at h
    split at h
    · cases h
    · next x left hx =>
      split at h
      · cases h
      · next ys left' hys =>
        cases h
        intro y hy
        obtain rfl | hy := List.mem_cons.1 hy
        · exact hread _ _ _ hx
        · exact ih hys y hy

theorem readTableImage_lawful {bytes : List Byte} {x : TableImage} (h : readTableImage bytes = some x) :
    ∀ a ∈ x.axles, a.Lawful := by
  unfold readTableImage at h
  split at h
  · cases h
  · next axles rest haxles =>
    split at h
    · cases h
      exact readMany_forall (fun _ _ _ => readAxleImage_lawful) haxles
    · cases h

theorem readSettingsSection_lawful {bytes : List Byte} {x : SettingsImage} (h : readSettingsSection bytes = some x) :
    (∀ p ∈ x.profiles, p.Lawful) ∧ x.settings.Lawful := by
  unfold readSettingsSection at h
  split at h
  · cases h
  · next profiles rest hprofiles =>
    split at h
    · next settings r1 r0 hsettings =>
      cases h
      exact ⟨readMany_forall (fun _ _ _ => readProfileImage_lawful) hprofiles, readSettingsImage_lawful hsettings⟩
    · cases h

theorem read_of_checkSection {α : Type} {read : List Byte → Option α} {x : StoreSection} {v : α}
    (h : checkSection read x = some v) : read x.image = some v := by
  unfold checkSection at h
  split at h
  · exact h
  · cases h

theorem Axle.factory_lawful : Axle.factory.Lawful := ⟨by decide, by decide⟩

theorem TableImage.factory_lawful : ∀ a ∈ TableImage.factory.axles, a.Lawful := fun _ ha =>
  List.eq_of_mem_replicate ha ▸ Axle.factory_lawful

theorem SettingsImage.factory_lawful :
    (∀ p ∈ SettingsImage.factory.profiles, p.Lawful) ∧ SettingsImage.factory.settings.Lawful := by
  refine ⟨fun p hp => ?_, ⟨by decide, by decide, by decide, by decide, by decide⟩⟩
  obtain h | h : p = Profile.default ∨ p = Profile.tipping := by
    have hall : ∀ p ∈ SettingsImage.factory.profiles, p = Profile.default ∨ p = Profile.tipping := by decide
    exact hall p hp
  · exact h ▸ Profile.default_lawful
  · exact h ▸ Profile.tipping_lawful

/-- What holds of every value that passes and of the defaults holds of the value loaded (R159). -/
theorem forall_checked {α : Type} {P : α → Prop} {read : List Byte → Option α} {x : StoreSection} {dflt : α}
    (hread : ∀ v, read x.image = some v → P v) (hdflt : P dflt) : P ((checkSection read x).getD dflt) := by
  cases h : checkSection read x with
  | none => exact hdflt
  | some v => exact hread v (read_of_checkSection h)

theorem getElem?_getD_forall {α : Type} {P : α → Prop} {l : List α} (hl : ∀ x ∈ l, P x) {dflt : α} (hdflt : P dflt)
    (i : Nat) : P ((l[i]?).getD dflt) := by
  cases h : l[i]? with
  | none => exact hdflt
  | some x => exact hl x (List.mem_of_getElem? h)

theorem State.storedAxles_lawful (s : State) : ∀ x ∈ s.storedAxles, x.Lawful := fun x hx => by
  have htable : ∀ section_ : StoreSection,
      ∀ a ∈ ((checkSection readTableImage section_).getD TableImage.factory).axles, a.Lawful := fun _ =>
    forall_checked (P := fun v : TableImage => ∀ a ∈ v.axles, a.Lawful) (fun _ => readTableImage_lawful)
      TableImage.factory_lawful
  obtain ht | hl := List.mem_append.1 hx
  · exact htable _ x ht
  · exact htable _ x hl

theorem State.storedSettings_lawful (s : State) :
    (∀ p ∈ s.storedSettings.profiles, p.Lawful) ∧ s.storedSettings.settings.Lawful :=
  forall_checked (P := fun v : SettingsImage => (∀ p ∈ v.profiles, p.Lawful) ∧ v.settings.Lawful)
    (fun _ => readSettingsSection_lawful) SettingsImage.factory_lawful

theorem State.ValueLaws.startRunning {s : State} (hs : s.ValueLaws) (hp : s.phase = .starting) :
    s.startRunning.ValueLaws where
  stack := ⟨hs.stack.depth, hs.stack.bottom⟩
  range := {
    axles := fun a => by
      rw [State.axle_startRunning]
      exact getElem?_getD_forall s.storedAxles_lawful Axle.factory_lawful _
    profiles := fun i => by
      rw [State.profile_startRunning]
      exact getElem?_getD_forall s.storedSettings_lawful.1 Profile.default_lawful _
    settings := s.storedSettings_lawful.2
    context := hs.range.context }
  lift :=
    have hlowered : ∀ a, s.startRunning.lifted a = false := hs.lift.starting hp
    ⟨fun a ha => absurd ha (by rw [hlowered a]; decide), nofun⟩

/-! The vehicle context. -/

theorem getLsbD_foldl_mask (f : Fin 4 → Bool) (i : Fin 4) :
    ((List.finRange 4).foldl (fun m i => if f i = true then m ||| (1#4 <<< i.val) else m) (0 : AxleMask)).getLsbD
      i.val = f i := by
  revert f i; decide

/-- Bit `i` of the fitted axles of a section is whether its `i`-th axle is not ABSENT (R60). -/
theorem State.getLsbD_fittedAxles (s : State) (base : Fin 5) (i : Fin 4) :
    (s.fittedAxles base).getLsbD i.val = ((s.axle ⟨base.val + i.val, by omega⟩).kind != .absent) :=
  getLsbD_foldl_mask (fun i => (s.axle ⟨base.val + i.val, by omega⟩).kind != .absent) i

/-- A mask of lifted axles of a section names none that is ABSENT. -/
def State.LiftsFitted (s : State) (base : Fin 5) (m : AxleMask) : Prop :=
  ∀ i : Fin 4, m.getLsbD i.val = true → (s.axle ⟨base.val + i.val, by omega⟩).kind ≠ .absent

theorem State.liftsFitted_and (s : State) (base : Fin 5) (m : AxleMask) :
    s.LiftsFitted base (m &&& s.fittedAxles base) := fun i hi => by
  rw [BitVec.getLsbD_and, Bool.and_eq_true, State.getLsbD_fittedAxles, bne_iff_ne] at hi
  exact hi.2

theorem State.LiftLaw.absent_iff {s : State} : (∀ a, s.lifted a = true → (s.axle a).kind ≠ .absent) ↔
    s.LiftsFitted 0 s.context.truckLifted ∧ s.LiftsFitted 4 s.context.trailerLifted := by
  constructor
  · intro h
    refine ⟨fun i hi => ?_, fun i hi => ?_⟩
    · refine h _ ?_
      rw [State.lifted, if_pos (by simp)]
      simpa using hi
    · refine h _ ?_
      rw [State.lifted, if_neg (by simp)]
      simpa using hi
  · rintro ⟨htruck, htrailer⟩ a ha
    unfold State.lifted at ha
    split at ha
    · next hlt =>
      have hfit := htruck ⟨a.val, hlt⟩ ha
      simpa using hfit
    · next hge =>
      have hfit := htrailer ⟨a.val - 4, by omega⟩ ha
      have hval : (4 : Fin 5).val + (a.val - 4) = a.val := by simp; omega
      simpa only [hval] using hfit

theorem takeField_forall {α : Type} {P : α → Prop} {b : Bool} {sent : Option α} {held : α}
    (hsent : ∀ v, sent = some v → P v) (hheld : P held) : P (takeField b sent held) := by
  unfold takeField
  cases sent with
  | none => exact hheld
  | some v =>
    dsimp only
    split
    · exact hsent v rfl
    · exact hheld

theorem loadOperand_le {r : Request} {n : Nat} (h : loadOperand r = some n) : n ≤ 100 := by
  obtain ⟨m, -, hm⟩ := Option.bind_eq_some_iff.1 h
  split at hm
  · cases hm
  · exact Option.some.inj hm ▸ Nat.min_le_left _ _

theorem clampNat_mem {lo hi : Nat} (h : lo ≤ hi) (n : Nat) : lo ≤ clampNat lo hi n ∧ clampNat lo hi n ≤ hi :=
  ⟨Nat.le_max_left _ _, Nat.max_le.2 ⟨h, Nat.min_le_left _ _⟩⟩

theorem clampInt_mem {lo hi : Int} (h : lo ≤ hi) (n : Int) : lo ≤ clampInt lo hi n ∧ clampInt lo hi n ≤ hi :=
  ⟨Int.le_max_left _ _, Int.max_le.2 ⟨h, Int.min_le_left _ _⟩⟩

theorem ambientOperand_mem {r : Request} {n : Nat} (h : ambientOperand r = some n) : 60 ≤ n ∧ n ≤ 110 := by
  obtain ⟨m, -, hm⟩ := Option.bind_eq_some_iff.1 h
  split at hm
  · cases hm
  · exact Option.some.inj hm ▸ clampNat_mem (by decide) _

theorem State.contextAfter_lawful {s : State} (hs : s.RangeLaw) (r : Request) : (s.contextAfter r).Lawful where
  load := takeField_forall (P := (· ≤ 100)) (fun _ => loadOperand_le) hs.context.load
  ambient := takeField_forall (P := fun n => 60 ≤ n ∧ n ≤ 110) (fun _ => ambientOperand_mem) hs.context.ambient

theorem State.ValueLaws.takesContext {s : State} (hs : s.ValueLaws) (hp : s.phase = .running) (r : Request) :
    ({ s with context := s.contextAfter r } : State).ValueLaws where
  stack := ⟨hs.stack.depth, hs.stack.bottom⟩
  range := ⟨hs.range.axles, hs.range.profiles, hs.range.settings, State.contextAfter_lawful hs.range r⟩
  lift := by
    obtain ⟨htruck, htrailer⟩ := State.LiftLaw.absent_iff.1 hs.lift.absent
    have hmask : ∀ (base : Fin 5) (b : Bool) (sent : Option AxleMask) (held : AxleMask), s.LiftsFitted base held →
        s.LiftsFitted base (takeField b (sent.map (· &&& s.fittedAxles base)) held) := by
      intro base b sent held hheld
      refine takeField_forall (fun v hv => ?_) hheld
      obtain ⟨m, -, rfl⟩ := Option.map_eq_some_iff.1 hv
      exact s.liftsFitted_and base m
    refine ⟨State.LiftLaw.absent_iff.2 ⟨hmask 0 _ _ _ htruck, hmask 4 _ _ _ htrailer⟩, fun h => ?_⟩
    exact absurd (hp.symm.trans h) (by decide)

/-! The edits. -/

theorem clampFields_lawful (x : Profile) : x.clampFields.Lawful where
  uw := clampNat_mem (by decide) _
  uc := clampNat_mem (by decide) _
  ow := clampNat_mem (by decide) _
  hyst := (clampNat_mem (by decide) _).2
  tw := clampInt_mem (by decide) _
  tc := clampInt_mem (by decide) _
  th := clampNat_mem (by decide) _
  ib := clampNat_mem (by decide) _
  lk := clampNat_mem (by decide) _

/-- The adjustments of R95 keep a record of clamped fields within the ranges. -/
theorem crossAdjust_lawful {x : Profile} (h : x.Lawful) : x.crossAdjust.Lawful := by
  have huw := h.uw
  have huc := h.uc
  have htw := h.tw
  have htc := h.tc
  refine { h with uc := ?_, tc := ?_ }
  · simp only [Profile.crossAdjust]
    split <;> omega
  · simp only [Profile.crossAdjust]
    split <;> omega

theorem ProfileWrite.result_lawful (w : ProfileWrite) (x : Profile) : (w.result x).1.Lawful :=
  crossAdjust_lawful (clampFields_lawful _)

theorem rangedField_mem {lo hi old : Nat} (hrange : lo ≤ hi) (hold : lo ≤ old ∧ old ≤ hi) (value : Option Nat) :
    lo ≤ rangedField lo hi value old ∧ rangedField lo hi value old ≤ hi := by
  cases value with
  | none => exact hold
  | some n => exact clampNat_mem hrange n

theorem SettingsWrite.apply_lawful {w : SettingsWrite} {x y : Settings} (hx : x.Lawful) (h : w.apply x = some y) :
    y.Lawful := by
  unfold SettingsWrite.apply at h
  split at h
  · obtain rfl := Option.some.inj h
    refine ⟨?_, rangedField_mem (by decide) hx.period _, rangedField_mem (by decide) hx.width _,
      rangedField_mem (by decide) hx.reportA _, rangedField_mem (by decide) hx.reportB _⟩
    cases w.tref with
    | none => exact hx.tref
    | some n => exact clampInt_mem (by decide) n
  · cases h

theorem AxleWrite.targets_lawful (w : AxleWrite) {x : Axle} (hx : x.Lawful) : (w.targets x).Lawful := by
  have htarget : ∀ (sent : Option Nat) (held : Nat), 100 ≤ held ∧ held ≤ 1200 →
      100 ≤ (sent.map clampTarget).getD held ∧ (sent.map clampTarget).getD held ≤ 1200 := by
    intro sent held hheld
    cases sent with
    | none => exact hheld
    | some n => exact clampNat_mem (by decide) n
  exact ⟨htarget _ _ hx.unladen, htarget _ _ hx.laden⟩

/-- The bit of one of four axles cleared in a mask. -/
theorem getLsbD_and_not_bit (m : AxleMask) (i j : Fin 4) :
    (m &&& ~~~ (1#4 <<< i.val)).getLsbD j.val = (m.getLsbD j.val && decide (j ≠ i)) := by
  revert m i j; decide

theorem State.lifted_lowerAxle (s : State) (a b : AxleNo) :
    (s.lowerAxle a).lifted b = (s.lifted b && decide (b ≠ a)) := by
  unfold State.lowerAxle State.lifted
  by_cases ha : a.val < 4
  · have htruck : truckAxle a = true := decide_eq_true ha
    simp only [htruck, if_true]
    split
    · next hb =>
      rw [getLsbD_and_not_bit s.context.truckLifted ⟨a.val, ha⟩ ⟨b.val, hb⟩]
      simp only [ne_eq, Fin.ext_iff]
    · next hb =>
      rw [decide_eq_true (p := b ≠ a) (fun h => hb (h ▸ ha)), Bool.and_true]
  · have htrailer : truckAxle a = false := decide_eq_false ha
    simp only [htrailer, Bool.false_eq_true, if_false]
    split
    · next hb =>
      rw [decide_eq_true (p := b ≠ a) (fun h => ha (h ▸ hb)), Bool.and_true]
    · next hb =>
      rw [getLsbD_and_not_bit s.context.trailerLifted ⟨a.val - 4, by omega⟩ ⟨b.val - 4, by omega⟩]
      have hsame : b.val - 4 = a.val - 4 ↔ b.val = a.val := by omega
      simp only [ne_eq, Fin.ext_iff, hsame]

/-- An axle that becomes ABSENT is lowered; any other kind leaves the context alone (R62). -/
theorem State.context_changeKind (s : State) (a : AxleNo) (k : AxleKind) :
    (s.changeKind a k).context = if k = .absent then (s.lowerAxle a).context else s.context := by
  have hcontext : ∀ (u : State) (ps : List Pos) (gone : Pos → Bool),
      ((u.resetAll ps).removeFromTeach gone true .complete).context = u.context := fun u ps gone => by
    rw [State.removeFromTeach_eq, State.resetAll_eq]
  unfold State.changeKind; dsimp only
  split
  · unfold State.lowerAxle; dsimp only; rw [hcontext]; rfl
  · rw [hcontext]; rfl

theorem State.lifted_changeKind (s : State) (a b : AxleNo) (k : AxleKind) : (s.changeKind a k).lifted b =
    if k = .absent then s.lifted b && decide (b ≠ a) else s.lifted b := by
  rw [← State.lifted_lowerAxle, ← apply_ite (fun u : State => u.lifted b)]
  refine State.lifted_congr ?_ b
  rw [State.context_changeKind]
  split <;> rfl

/-- An axle that takes its kind stays lifted at most where it was, and not where it becomes ABSENT (R62). -/
theorem State.lifted_takeKind {s : State} {a b : AxleNo} {k : AxleKind} (h : (s.takeKind a k).lifted b = true) :
    s.lifted b = true ∧ (b = a → k ≠ (s.axle a).kind → k ≠ .absent) := by
  unfold State.takeKind at h
  split at h
  · next hsame => exact ⟨h, fun _ hne => absurd hsame hne⟩
  · rw [State.lifted_changeKind] at h
    split at h
    · rw [Bool.and_eq_true, decide_eq_true_eq] at h
      exact ⟨h.1, fun hba => absurd hba h.2⟩
    · next hk => exact ⟨h, fun _ _ => hk⟩

theorem State.values_takeKind (s : State) (a : AxleNo) (k : AxleKind) : (s.takeKind a k).values = { s.values with
    axles := (s.takeKind a k).axles, context := (s.takeKind a k).context } := by
  unfold State.takeKind
  split
  · rfl
  · rw [State.changeKind_eq]; simp only [State.values]

theorem State.context_takeKind (s : State) (a : AxleNo) (k : AxleKind) :
    (s.takeKind a k).context.load = s.context.load ∧ (s.takeKind a k).context.ambient = s.context.ambient := by
  unfold State.takeKind
  split
  · exact ⟨rfl, rfl⟩
  · rw [State.context_changeKind]
    split
    · unfold State.lowerAxle; dsimp only; split <;> exact ⟨rfl, rfl⟩
    · exact ⟨rfl, rfl⟩

theorem State.axle_axleWritten (s : State) (w : AxleWrite) (k : AxleKind) (b : AxleNo) :
    ((s.takeKind w.axle k).setAxle w.axle (s.axleWritten w k)).axle b =
      if b = w.axle then s.axleWritten w k else s.axle b := by
  rw [State.axle_setAxle]
  split
  · rfl
  · next h => exact s.axle_takeKind_ne k h

theorem State.ValueLaws.writesAxle {s : State} (hs : s.ValueLaws) (hp : s.phase = .running) (w : AxleWrite)
    (k : AxleKind) : ((s.takeKind w.axle k).setAxle w.axle (s.axleWritten w k)).ValueLaws := by
  obtain ⟨hphase, -, -, hprofiles, hstack, hsettings⟩ := Values.mk.inj (s.values_takeKind w.axle k)
  obtain ⟨hload, hambient⟩ := s.context_takeKind w.axle k
  refine ⟨⟨?depth, ?bottom⟩, ⟨fun b => ?axles, fun i => ?profiles, ?settings, ?context⟩,
    ⟨fun b hb => ?absent, fun h => ?starting⟩⟩
  case depth => exact hstack ▸ hs.stack.depth
  case bottom => exact hstack ▸ hs.stack.bottom
  case axles =>
    rw [State.axle_axleWritten]
    split
    · have hold := hs.range.axles w.axle
      exact w.targets_lawful ⟨hold.unladen, hold.laden⟩
    · exact hs.range.axles b
  case profiles => exact (State.profile_congr hprofiles i) ▸ hs.range.profiles i
  case settings => exact hsettings ▸ hs.range.settings
  case context => exact ⟨hload ▸ hs.range.context.load, hambient ▸ hs.range.context.ambient⟩
  case absent =>
    obtain ⟨hlifted, hlowered⟩ := State.lifted_takeKind (hb : (s.takeKind w.axle k).lifted b = true)
    rw [State.axle_axleWritten]
    split
    · next hba =>
      by_cases hsame : k = (s.axle w.axle).kind
      · have hkind := hs.lift.absent b hlifted
        rw [hba, ← hsame] at hkind
        exact hkind
      · exact hlowered hba hsame
    · exact hs.lift.absent b hlifted
  case starting => exact absurd (hp.symm.trans (hphase.symm.trans h)) (by decide)

theorem State.lifted_sectionAbsent {s : State} {truck : Bool} {a : AxleNo}
    (h : (s.sectionAbsent truck).lifted a = true) : s.lifted a = true ∧ truckAxle a ≠ truck := by
  unfold State.lifted State.sectionAbsent at h
  cases truck with
  | true =>
    simp only [if_true] at h
    split at h
    · simp at h
    · next hge => exact ⟨by rw [State.lifted, if_neg hge]; exact h, by simpa [truckAxle] using hge⟩
  | false =>
    simp only [Bool.false_eq_true, if_false] at h
    split at h
    · next hlt => exact ⟨by rw [State.lifted, if_pos hlt]; exact h, by simpa [truckAxle] using hlt⟩
    · simp at h

theorem State.ValueLaws.clears {s : State} (hs : s.ValueLaws) (hp : s.phase = .running) (truck : Bool) :
    (s.sectionAbsent truck).ValueLaws where
  stack := ⟨hs.stack.depth, hs.stack.bottom⟩
  range := {
    axles := fun a => by
      rw [State.axle_sectionAbsent]
      have hold := hs.range.axles a
      split
      · exact ⟨hold.unladen, hold.laden⟩
      · exact hold
    profiles := hs.range.profiles
    settings := hs.range.settings
    context := by
      cases truck with
      | true => exact ⟨hs.range.context.load, hs.range.context.ambient⟩
      | false => exact ⟨hs.range.context.load, hs.range.context.ambient⟩ }
  lift := by
    refine ⟨fun a ha => ?_, fun h => absurd (hp.symm.trans h) (by decide)⟩
    obtain ⟨hlifted, hother⟩ := State.lifted_sectionAbsent ha
    rw [State.axle_sectionAbsent, if_neg hother]
    exact hs.lift.absent a hlifted

theorem State.values_clearVehicleSection (s : State) (truck : Bool) :
    (s.clearVehicleSection truck).values = (s.sectionAbsent truck).values :=
  (State.values_of_holdings (s.holdings_clearVehicleSection truck)).trans (by
    rw [State.resetAll_eq]; simp only [State.values])

theorem State.ValueLaws.setProfile {s : State} (hs : s.ValueLaws) (i : ProfileNo) {x : Profile} (hx : x.Lawful) :
    (s.setProfile i x).ValueLaws where
  stack := ⟨hs.stack.depth, hs.stack.bottom⟩
  range := {
    axles := hs.range.axles
    profiles := fun j => by
      rw [State.profile_setProfile]
      split
      · exact hx
      · exact hs.range.profiles j
    settings := hs.range.settings
    context := hs.range.context }
  lift := ⟨hs.lift.absent, hs.lift.starting⟩

theorem State.ValueLaws.setSettings {s : State} (hs : s.ValueLaws) {x : Settings} (hx : x.Lawful) :
    ({ s with settings := x } : State).ValueLaws where
  stack := ⟨hs.stack.depth, hs.stack.bottom⟩
  range := ⟨hs.range.axles, hs.range.profiles, hx, hs.range.context⟩
  lift := ⟨hs.lift.absent, hs.lift.starting⟩

theorem reset_valueLaws : State.reset.ValueLaws := ⟨reset_stackLaw, reset_rangeLaw, reset_liftLaw⟩

theorem State.ValueLaws.moves {s u : State} {c : Instr} (hs : s.ValueLaws) (h : s.Moves c u) : u.ValueLaws := by
  cases h with
  | stays c => exact hs
  | restarts straps cut => exact reset_valueLaws.of_values rfl
  | starts hp => exact hs.startRunning hp
  | startsRaised change hp hc =>
    exact ((hs.startRunning hp).restacked hc).of_values (State.changeStack_settles _ change).values
  | delivers c ready e later hm hh ht hg =>
    exact hs.of_values ((ready.values_deliver _).trans (State.values_of_holdings hh))
  | expires p hp => exact hs.of_values (by rw [State.fallMissing_eq]; simp only [State.values])
  | couples hp => exact hs.of_values (by rw [State.recouple_eq]; simp only [State.values])
  | decouples hp => exact hs.of_values (by rw [State.decouple_eq]; simp only [State.values])
  | restacks c ready change hh hc =>
    have hready : ready.ValueLaws := hs.of_values (State.values_of_holdings hh)
    have hstack : ready.stack = s.stack := congrArg Holdings.stack hh
    exact (hready.restacked (hstack ▸ hc)).of_values (ready.changeStack_settles change).values
  | acknowledges r ps => exact hs.of_values (by simp only [State.mapPos, State.values])
  | holds r p hp => exact hs.of_values rfl
  | unholds r p hp => exact hs.of_values (by rw [State.restoreHold_eq]; simp only [State.values])
  | writesPosition r p id hr hid => exact hs.of_values rfl
  | writesAxle r w k hr => exact (hs.writesAxle hr.1.2 w k).of_values (s.applyAxle_settles w k).values
  | writesProfile r w hr =>
    exact (hs.setProfile w.index (w.result_lawful _)).of_values (s.applyProfile_settles _ _).values
  | writesSettings r w x hr hx =>
    exact (hs.setSettings (SettingsWrite.apply_lawful hs.range.settings hx)).of_values
      (s.applySettings_settles x).values
  | clears r truck hr => exact (hs.clears hr.1.2 truck).of_values (s.values_clearVehicleSection truck)
  | takesContext r hp => exact (hs.takesContext hp r).of_values (State.values_reevaluate _)
  | saturates => exact hs.of_values (by rw [State.saturated_frame]; simp only [State.values])

/-- Settles O56: each move of the wheel table and of the values beside it keeps the three laws. -/
theorem stepKeepsStackAndRangeLaws : Obligations.StepKeepsStackAndRangeLaws := by
  intro s t hstack hrange hlift hstep
  have hs : s.ValueLaws := ⟨hstack, hrange, hlift⟩
  have ht : t.ValueLaws := by
    obtain hstays | ⟨c, rest, -, u, hmove, ht⟩ := step_moves hstep
    · exact hs.of_values (State.values_of_holdings hstays)
    · have hrest : ({ s with pending := rest } : State).ValueLaws := hs.of_values rfl
      exact (hrest.moves hmove).of_values (State.values_of_holdings ht)
  exact ⟨ht.stack, ht.range, ht.lift⟩

/-! ### The law of the position states (R34, R81, R117) -/

/-- The fields of a position that its state speaks of. -/
structure PositionCore where
  sensor : Option SensorId
  state : PosState
  beforeHold : Option PosState
  sampled : Bool
  supervised : Bool
  remains : Bool
  live : KindMask

def Position.core (x : Position) : PositionCore :=
  { sensor := x.sensor, state := x.state, beforeHold := x.beforeHold, sampled := x.sample.isSome
    supervised := x.deadline.isSome, remains := x.remaining.isSome, live := x.live }

/-- The law of an assigned position is a law of its core. -/
theorem Position.Lawful.of_core {x y : Position} (hx : x.Lawful) (hassigned : x.state ≠ .unassigned)
    (h : y.core = x.core) : y.Lawful := by
  obtain ⟨hsensor, hstate, hbefore, hsample, hdeadline, hremaining, hlive⟩ := PositionCore.mk.inj h
  refine ⟨fun hy => absurd (hstate.symm.trans hy) hassigned, fun _ => ?_, ?_, ?_, ?_, ?_, ?_, ?_, ?_, ?_⟩
  · rw [hsensor]; exact hx.assigned hassigned
  · rw [hdeadline, hstate]; exact hx.deadline
  · rw [hbefore, hstate]; exact hx.held
  · rw [hbefore]; exact hx.before
  · rw [hremaining, hbefore]; exact hx.remaining
  · rw [hstate, hlive]; exact hx.quiet
  · rw [hstate, hlive]; exact hx.frozen
  · rw [hstate, hlive]; exact hx.alive
  · rw [hstate, hbefore, hsample]; exact hx.sampled

/-- Another live set keeps the law where the state allows it. -/
theorem Position.Lawful.setLive {x : Position} (hx : x.Lawful) {m : KindMask}
    (hquiet : x.state ≠ .active → x.state ≠ .missing → m = 0)
    (hfrozen : x.state = .missing → hasKind m .imbalance = false)
    (halive : x.state ≠ .missing → hasKind m .missing = false) : { x with live := m }.Lawful where
  unassigned h := by
    obtain rfl := hx.unassigned h
    obtain rfl := hquiet nofun nofun
    rfl
  assigned := hx.assigned
  deadline := hx.deadline
  held := hx.held
  before := hx.before
  remaining := hx.remaining
  quiet := hquiet
  frozen := hfrozen
  alive := halive
  sampled := hx.sampled

theorem dropKind_zero (k : Kind) : dropKind 0 k = 0 := by
  refine kindMask_ext fun j => ?_
  rw [hasKind_dropKind, hasKind_zero, Bool.false_and]

theorem Position.Lawful.dropKind {x : Position} (hx : x.Lawful) (k : Kind) :
    { x with live := Machine.dropKind x.live k }.Lawful := by
  have hnone : ∀ j, hasKind x.live j = false → hasKind (Machine.dropKind x.live k) j = false := fun j h => by
    rw [hasKind_dropKind, h, Bool.false_and]
  refine hx.setLive (fun ha hm => ?_) (fun h => hnone _ (hx.frozen h)) fun h => hnone _ (hx.alive h)
  rw [hx.quiet ha hm, dropKind_zero]

theorem State.PositionLaw.of_eq {s t : State} (hs : s.PositionLaw) (hpos : t.positions = s.positions)
    (htrailer : t.trailerPresent = s.trailerPresent) : t.PositionLaw where
  lawful p := by rw [State.pos_congr hpos]; exact hs.lawful p
  detached p := by rw [State.pos_congr hpos, htrailer]; exact hs.detached p

theorem State.PositionLaw.of_holdings {s t : State} (hs : s.PositionLaw) (h : t.holdings = s.holdings) :
    t.PositionLaw := hs.of_eq (State.holdings_positions h) (congrArg Holdings.trailerPresent h)

/-- Positions that stay lawful and keep sensor and state leave the law. -/
theorem State.PositionLaw.of_pos {s t : State} (hs : s.PositionLaw) (htrailer : t.trailerPresent = s.trailerPresent)
    (hpos : ∀ p, (t.pos p).Lawful ∧ (t.pos p).sensor = (s.pos p).sensor ∧ (t.pos p).state = (s.pos p).state) :
    t.PositionLaw where
  lawful p := (hpos p).1
  detached p := by
    obtain ⟨-, hsensor, hstate⟩ := hpos p
    rw [hsensor, hstate, htrailer]
    exact hs.detached p

/-- What the state of a position at `p` has to say of the trailer. -/
def Position.DetachedAt (x : Position) (p : Pos) (present : Bool) : Prop :=
  x.state = .detached ↔ inTruck p = false ∧ x.sensor.isSome = true ∧ present = false

theorem State.PositionLaw.setPos {s : State} (hs : s.PositionLaw) {p : Pos} {x : Position} (hx : x.Lawful)
    (hdetached : x.DetachedAt p s.trailerPresent) : (s.setPos p x).PositionLaw where
  lawful q := by
    rw [State.pos_setPos]
    split
    · exact hx
    · exact hs.lawful q
  detached q := by
    rw [State.pos_setPos]
    split
    · next h => subst h; exact hdetached
    · exact hs.detached q

/-- A position that is not DETACHED and does not become so, with the same sensor. -/
theorem State.PositionLaw.detachedAt {s : State} (hs : s.PositionLaw) {p : Pos} {x : Position}
    (hsensor : x.sensor = (s.pos p).sensor) (hold : (s.pos p).state ≠ .detached) (hnew : x.state ≠ .detached) :
    x.DetachedAt p s.trailerPresent := by
  unfold Position.DetachedAt
  rw [hsensor]
  exact ⟨fun h => absurd h hnew, fun h => absurd ((hs.detached p).2 h) hold⟩

theorem State.PositionLaw.dropPartnerImbalance {s : State} (hs : s.PositionLaw) (p : Pos) :
    (s.dropPartnerImbalance p).PositionLaw := by
  refine hs.of_pos rfl fun q => ?_
  rw [State.pos_dropPartnerImbalance]
  split
  · next h => subst h; exact ⟨(hs.lawful _).dropKind _, rfl, rfl⟩
  · exact ⟨hs.lawful q, rfl, rfl⟩

theorem State.PositionLaw.latchAll {s : State} (hs : s.PositionLaw) (c : AlarmCause) {ts : List (Pos × Kind)}
    (hts : ∀ t ∈ ts, (s.pos t.1).state ≠ .unassigned) : (s.latchAll c ts).PositionLaw := by
  refine hs.of_pos (s.latchAll_trailerPresent c ts) fun q => ?_
  obtain ⟨hlatched, hother⟩ := s.pos_latchAll c ts q
  by_cases hq : ∀ t ∈ ts, t.1 ≠ q
  · rw [hother hq]
    exact ⟨hs.lawful q, rfl, rfl⟩
  · simp only [not_forall, not_not] at hq
    obtain ⟨t, ht, rfl⟩ := hq
    rw [hlatched]
    exact ⟨(hs.lawful _).of_core (hts t ht) rfl, rfl, rfl⟩

/-! Re-evaluations and samples. -/

theorem State.live_latchAll (s : State) (c : AlarmCause) (ts : List (Pos × Kind)) (q : Pos) :
    ((s.latchAll c ts).pos q).live = (s.pos q).live := by rw [(s.pos_latchAll c ts q).1]

/-- A re-evaluation neither sets nor clears MISSING (R115). -/
theorem State.missing_reevaluate (s : State) (q : Pos) :
    hasKind (s.reevaluate.pos q).live .missing = hasKind (s.pos q).live .missing := by
  have hmeasured : (s.recomputeAllPc.pos q).live = (s.pos q).live := by
    simp only [State.recomputeAllPc, State.pos_mapPos]
    split
    · rw [State.withPc_eq]
    · rfl
  unfold State.reevaluate; dsimp only
  rw [State.live_latchAll]
  simp only [State.retestAll, State.pos_mapPos]
  split
  · rw [← hmeasured]; exact State.missing_testedLive _ q
  · rw [hmeasured]

theorem State.PositionLaw.reevaluate {s : State} (hs : s.PositionLaw) : s.reevaluate.PositionLaw := by
  refine hs.of_pos s.reevaluate_trailerPresent fun q => ?_
  obtain ⟨hfields, hother⟩ := s.pos_reevaluate q
  by_cases hactive : (s.pos q).state = .active
  · have hlive : { s.pos q with live := (s.reevaluate.pos q).live }.Lawful := by
      refine (hs.lawful q).setLive (fun h => absurd hactive h) (fun h => ?_) fun h => ?_
      · exact absurd (hactive.symm.trans h) (by decide)
      · rw [State.missing_reevaluate]; exact (hs.lawful q).alive h
    rw [hfields]
    exact ⟨hlive.of_core (by rw [hactive]; decide) rfl, rfl, rfl⟩
  · rw [hother hactive]
    exact ⟨hs.lawful q, rfl, rfl⟩

theorem State.PositionLaw.settles {u t : State} (hu : u.PositionLaw) (h : u.Settles t) : t.PositionLaw := by
  obtain ⟨v, hv, ht | ht⟩ := h
  · exact (hu.of_holdings hv).of_holdings ht
  · exact (hu.of_holdings hv).reevaluate.of_holdings ht

/-- A live set that has gained no kind at an UNASSIGNED position names no transition there. -/
theorem State.PositionLaw.sampleTested {s : State} (hs : s.PositionLaw) {p : Pos}
    (hactive : (s.pos p).state = .active) : (s.sampleTested p).PositionLaw := by
  refine hs.of_pos rfl fun q => ?_
  rw [State.pos_sampleTested]
  refine ⟨?_, rfl, rfl⟩
  have hold : { s.pos q with live := (s.pos q).live }.Lawful := hs.lawful q
  split
  · next hq =>
    subst hq
    refine (hs.lawful q).setLive (fun h => absurd hactive h) (fun h => ?_) fun h => ?_
    · exact absurd (hactive.symm.trans h) (by decide)
    · rw [State.missing_testedLive]; exact (hs.lawful q).alive h
  · split
    · by_cases hqa : (s.pos q).state = .active
      · refine (hs.lawful q).setLive (fun h => absurd hqa h) (fun h => ?_) fun h => ?_
        · exact absurd (hqa.symm.trans h) (by decide)
        · rw [State.hasKind_testedLive]; exact (hs.lawful q).alive h
      · rw [State.testedLive_imbalance_inactive hqa]
        exact (hs.lawful q).dropKind .imbalance
    · exact hold

/-- At a position with no kind live after the tests, none has gone live. -/
theorem State.PositionLaw.evaluateSample {s : State} (hs : s.PositionLaw) {p : Pos}
    (hactive : (s.pos p).state = .active) : (s.evaluateSample p).PositionLaw := by
  have htested := hs.sampleTested hactive
  rw [State.evaluateSample_eq_latchAll]
  refine htested.latchAll .sample fun t ht hunassigned => ?_
  have hlive : hasKind ((s.sampleTested p).pos t.1).live t.2 = true := by
    obtain ht | ht := List.mem_append.1 ht
    · obtain ⟨h, hlive, -⟩ := mem_wentLive ht; exact h ▸ hlive
    · obtain ⟨h, hlive, -⟩ := mem_wentLive ht; exact h ▸ hlive
  rw [(htested.lawful t.1).quiet (by rw [hunassigned]; decide) (by rw [hunassigned]; decide), hasKind_zero] at hlive
  cases hlive

theorem Position.Lawful.beforeHold_eq_none {x : Position} (hx : x.Lawful) (h : x.state ≠ .held) :
    x.beforeHold = none := by
  rw [← Option.not_isSome_iff_eq_none]
  exact fun hsome => h (hx.held.1 hsome)

theorem Position.Lawful.remaining_eq_none {x : Position} (hx : x.Lawful)
    (h : x.beforeHold ≠ some .waiting ∧ x.beforeHold ≠ some .active) : x.remaining = none := by
  rw [← Option.not_isSome_iff_eq_none]
  exact fun hsome => (hx.remaining.1 hsome).elim h.1 h.2

/-- An accepted sample in place makes an ACTIVE position of any lawful one that holds a sensor and is not HELD. -/
theorem landSample_lawful {x : Position} (hx : x.Lawful) (hsensor : x.sensor.isSome = true)
    (hnotHeld : x.state ≠ .held) (s : State) (d : Delivery) : (s.withFigures d (supervise x d (landSample d x))).Lawful := by
  have hbefore := hx.beforeHold_eq_none hnotHeld
  have hremaining := hx.remaining_eq_none (by rw [hbefore]; decide)
  have hcore : (s.withFigures d (supervise x d (landSample d x))).core =
      { sensor := x.sensor, state := .active, beforeHold := x.beforeHold, sampled := true, supervised := true
        remains := x.remaining.isSome, live := dropKind x.live .missing } := by
    rw [State.withFigures_eq]; rfl
  obtain ⟨hs, hst, hbh, hsm, hdl, hrem, hlv⟩ := PositionCore.mk.inj hcore
  refine ⟨?_, ?_, ?_, ?_, ?_, ?_, ?_, ?_, ?_, ?_⟩
  · rw [hst]; nofun
  · rw [hs]; exact fun _ => hsensor
  · rw [hdl, hst]; simp
  · rw [hbh, hst, hbefore]; simp
  · rw [hbh, hbefore]; exact .inl rfl
  · rw [hrem, hbh, hremaining, hbefore]; simp
  · rw [hst]; exact fun h => absurd rfl h
  · rw [hst]; nofun
  · rw [hlv, hasKind_dropKind]; simp
  · rw [hsm]; exact fun _ => rfl

/-- The states in which a position takes samples and can be held (R40, R52). -/
def Position.inService (x : Position) : Prop := x.state = .waiting ∨ x.state = .active ∨ x.state = .missing

theorem Position.inService.ne {x : Position} (h : x.inService) :
    x.state ≠ .unassigned ∧ x.state ≠ .held ∧ x.state ≠ .detached := by
  obtain h | h | h := h <;> rw [h] <;> decide

/-- Accepting a sample: placed with its figures, tested, and for an ALERT reported on both ports (R43, R176). -/
theorem State.accept_eq_ite (s : State) (p : Pos) (d : Delivery) : s.accept p d =
    let placed := s.setPos p (s.withFigures d (supervise (s.pos p) d (landSample d (s.pos p))))
    if d.content.kind = .alert then (placed.evaluateSample p).raisedOnBoth 2 2 0x60#8 fun port =>
      (placed.evaluateSample p).positionReport p port
    else placed.evaluateSample p := rfl

theorem State.PositionLaw.accept {s : State} (hs : s.PositionLaw) {p : Pos} (hp : (s.pos p).inService) (d : Delivery) :
    (s.accept p d).PositionLaw := by
  obtain ⟨hassigned, hnotHeld, hnotDetached⟩ := hp.ne
  have hplaced : (s.setPos p (s.withFigures d (supervise (s.pos p) d (landSample d (s.pos p))))).PositionLaw := by
    refine hs.setPos (landSample_lawful (hs.lawful p) ((hs.lawful p).assigned hassigned) hnotHeld s d) ?_
    refine hs.detachedAt (by rw [State.withFigures_eq]; rfl) hnotDetached ?_
    rw [State.withFigures_eq]
    nofun
  have htested := hplaced.evaluateSample (p := p) (by rw [State.pos_setPos_same, State.withFigures_eq]; rfl)
  rw [State.accept_eq_ite]; dsimp only
  split
  · exact htested.of_holdings rfl
  · exact htested

/-- A sample lands at a position in service alone (R40). -/
theorem State.landNormally_inService {s : State} {p : Pos} (hp : (s.pos p).inService) (d : Delivery) :
    s.landNormally p d = s.accept p d := by
  unfold State.landNormally
  obtain h | h | h := hp <;> rw [h]

theorem State.landNormally_notInService {s : State} {p : Pos} (hp : ¬ (s.pos p).inService) (d : Delivery) :
    s.landNormally p d = s := by
  unfold State.landNormally
  split
  · next h => exact absurd (.inl h) hp
  · next h => exact absurd (.inr (.inl h)) hp
  · next h => exact absurd (.inr (.inr h)) hp
  · rfl
  · rfl
  · rfl

theorem State.PositionLaw.landNormally {s : State} (hs : s.PositionLaw) (p : Pos) (d : Delivery) :
    (s.landNormally p d).PositionLaw := by
  by_cases hp : (s.pos p).inService
  · rw [State.landNormally_inService hp]; exact hs.accept hp d
  · rw [State.landNormally_notInService hp]; exact hs

/-! Expiry and hold. -/

/-- The record that an expiry leaves at its position (R85, R116). -/
def State.missingRecord (s : State) (x : Position) : Position :=
  { x with
    state := .missing, deadline := none
    live := if hasKind s.activeProfile.enable .missing then addKind (dropKind x.live .imbalance) .missing
      else dropKind x.live .imbalance }

theorem State.fallMissing_eq_latchAll (s : State) (p : Pos) : s.fallMissing p =
    ((s.setPos p (s.missingRecord (s.pos p))).dropPartnerImbalance p).latchAll .expiry
      ((transitions (dropKind (s.pos p).live .imbalance) (s.missingRecord (s.pos p)).live).map fun k => (p, k)) := rfl

theorem State.missingRecord_imbalance (s : State) (x : Position) :
    hasKind (s.missingRecord x).live .imbalance = false := by
  unfold State.missingRecord; dsimp only
  split
  · rw [hasKind_addKind, hasKind_dropKind]; simp
  · rw [hasKind_dropKind]; simp

theorem State.PositionLaw.fallMissing {s : State} (hs : s.PositionLaw) {p : Pos}
    (hp : (s.pos p).state = .waiting ∨ (s.pos p).state = .active) : (s.fallMissing p).PositionLaw := by
  have hx := hs.lawful p
  have hne : (s.pos p).state ≠ .unassigned ∧ (s.pos p).state ≠ .held ∧ (s.pos p).state ≠ .detached := by
    obtain h | h := hp <;> rw [h] <;> decide
  obtain ⟨hassigned, hnotHeld, hnotDetached⟩ := hne
  have hbefore := hx.beforeHold_eq_none hnotHeld
  have hrecord : (s.missingRecord (s.pos p)).Lawful := by
    refine ⟨nofun, fun _ => hx.assigned hassigned, ⟨nofun, nofun⟩, ?_, hx.before, hx.remaining,
      fun _ h => absurd rfl h, fun _ => s.missingRecord_imbalance _, fun h => absurd rfl h, ?_⟩
    · simp only [State.missingRecord, hbefore]; decide
    · simp only [State.missingRecord, hbefore]; nofun
  have hset := hs.setPos hrecord (hs.detachedAt rfl hnotDetached nofun)
  rw [State.fallMissing_eq_latchAll]
  refine (hset.dropPartnerImbalance p).latchAll .expiry fun t ht => ?_
  obtain ⟨k, -, rfl⟩ := List.mem_map.1 ht
  dsimp only
  rw [State.pos_dropPartnerImbalance, if_neg (partner_ne p).symm, State.pos_setPos_same]
  nofun

/-- The record of a position as a hold takes it (R52). -/
def State.heldRecord (s : State) (x : Position) : Position :=
  { x with
    state := .held, beforeHold := some x.state, remaining := x.deadline.map (span s.tick), deadline := none
    live := 0, leakHistory := [], leakRate := none }

theorem State.takeHold_eq_setPos (s : State) (p : Pos) :
    s.takeHold p = (s.setPos p (s.heldRecord (s.pos p))).dropPartnerImbalance p := rfl

theorem State.PositionLaw.takeHold {s : State} (hs : s.PositionLaw) {p : Pos} (hp : (s.pos p).inService) :
    (s.takeHold p).PositionLaw := by
  obtain ⟨hassigned, hnotHeld, hnotDetached⟩ := hp.ne
  have hx := hs.lawful p
  have hbefore := hx.beforeHold_eq_none hnotHeld
  have hremains : ((s.pos p).deadline.map (span s.tick)).isSome = true ↔
      some (s.pos p).state = some .waiting ∨ some (s.pos p).state = some .active := by
    rw [Option.isSome_map, hx.deadline, Option.some.injEq, Option.some.injEq]
  have hbeforeStates : some (s.pos p).state = none ∨ some (s.pos p).state = some .waiting ∨
      some (s.pos p).state = some .active ∨ some (s.pos p).state = some .missing := by
    obtain h | h | h := hp <;> rw [h] <;> decide
  have hrecord : (s.heldRecord (s.pos p)).Lawful := ⟨nofun, fun _ => hx.assigned hassigned, ⟨nofun, nofun⟩,
    ⟨fun _ => rfl, fun _ => rfl⟩, hbeforeStates, hremains,
    fun _ _ => rfl, fun _ => hasKind_zero _, fun _ => hasKind_zero _,
    fun h => hx.sampled (.inl (Option.some.inj (h.resolve_left nofun)))⟩
  rw [State.takeHold_eq_setPos]
  exact (hs.setPos hrecord (hs.detachedAt rfl hnotDetached nofun)).dropPartnerImbalance p

/-- A hold restored to MISSING (R53, R117). -/
def State.restoredMissing (s : State) (x : Position) : Position :=
  { x with
    state := .missing, beforeHold := none, remaining := none
    live := if hasKind s.activeProfile.enable .missing then addKind x.live .missing else x.live }

/-- A hold restored to the state it took the position from (R53, R88). -/
def State.restoredTo (s : State) (x : Position) (st : PosState) : Position :=
  { x with state := st, beforeHold := none, remaining := none, deadline := x.remaining.map (after s.tick) }

theorem State.restoreHold_none {s : State} {p : Pos} (h : (s.pos p).beforeHold = none) : s.restoreHold p = s := by
  simp only [State.restoreHold, h]

theorem State.restoreHold_missing {s : State} {p : Pos} (h : (s.pos p).beforeHold = some .missing) :
    s.restoreHold p = (s.setPos p (s.restoredMissing (s.pos p))).latchAll .restore
      ((transitions (s.pos p).live (s.restoredMissing (s.pos p)).live).map fun k => (p, k)) := by
  simp only [State.restoreHold, h]
  rfl

theorem State.restoreHold_some {s : State} {p : Pos} {st : PosState} (h : (s.pos p).beforeHold = some st)
    (hst : st ≠ .missing) : s.restoreHold p =
      if (s.pos p).remaining.map (after s.tick) = some s.tick then
        (s.setPos p (s.restoredTo (s.pos p) st)).fallMissing p
      else s.setPos p (s.restoredTo (s.pos p) st) := by
  cases st with
  | missing => exact absurd rfl hst
  | _ => simp only [State.restoreHold, h]; rfl

theorem State.restoredTo_lawful {s : State} {x : Position} (hx : x.Lawful) (hheld : x.state = .held) {st : PosState}
    (hbefore : x.beforeHold = some st) (hst : st = .waiting ∨ st = .active) : (s.restoredTo x st).Lawful := by
  have hassigned : x.state ≠ .unassigned := by rw [hheld]; decide
  have hquiet : x.live = 0 := hx.quiet (by rw [hheld]; decide) (by rw [hheld]; decide)
  have hremaining : x.remaining.isSome = true := hx.remaining.2 (by
    rw [hbefore]; exact hst.imp (congrArg some) (congrArg some))
  have hne : st ≠ .unassigned ∧ st ≠ .held ∧ st ≠ .missing := by
    obtain rfl | rfl := hst <;> decide
  refine ⟨fun h => absurd h hne.1, fun _ => hx.assigned hassigned, ?_, ?_, .inl rfl, ?_, fun _ _ => hquiet,
    fun h => absurd h hne.2.2, fun _ => ?_, fun h => ?_⟩
  · simp only [State.restoredTo, Option.isSome_map, hremaining, true_iff]; exact hst
  · simp only [State.restoredTo, Option.isSome_none, Bool.false_eq_true, false_iff]; exact hne.2.1
  · simp only [State.restoredTo]; decide
  · simp only [State.restoredTo, hquiet, hasKind_zero]
  · obtain h | h := h
    · exact hx.sampled (.inr (hbefore.trans (congrArg some h)))
    · cases h

theorem State.restoredMissing_lawful {s : State} {x : Position} (hx : x.Lawful) (hheld : x.state = .held) :
    (s.restoredMissing x).Lawful := by
  have hassigned : x.state ≠ .unassigned := by rw [hheld]; decide
  have hquiet : x.live = 0 := hx.quiet (by rw [hheld]; decide) (by rw [hheld]; decide)
  have hdeadline : ¬ x.deadline.isSome = true := fun h => by
    have hst := hx.deadline.1 h
    rw [hheld] at hst
    revert hst; decide
  refine ⟨nofun, fun _ => hx.assigned hassigned, ⟨fun h => absurd h hdeadline, nofun⟩, ⟨nofun, nofun⟩, .inl rfl,
    ⟨nofun, nofun⟩, fun _ h => absurd rfl h, fun _ => ?_, fun h => absurd rfl h, nofun⟩
  unfold State.restoredMissing; dsimp only
  rw [hquiet]
  split
  · rw [hasKind_addKind, hasKind_zero]; rfl
  · exact hasKind_zero _

theorem State.PositionLaw.restoreHold {s : State} (hs : s.PositionLaw) {p : Pos} (hp : (s.pos p).state = .held) :
    (s.restoreHold p).PositionLaw := by
  have hx := hs.lawful p
  have hnotDetached : (s.pos p).state ≠ .detached := by rw [hp]; decide
  have hrestored : ∀ st, st = .waiting ∨ st = .active → (s.pos p).beforeHold = some st →
      (s.restoreHold p).PositionLaw := by
    intro st hst hbefore
    have hne : st ≠ .missing ∧ st ≠ .detached := by obtain rfl | rfl := hst <;> decide
    have hset := hs.setPos (State.restoredTo_lawful (s := s) hx hp hbefore hst) (hs.detachedAt rfl hnotDetached hne.2)
    rw [State.restoreHold_some hbefore hne.1]
    split
    · exact hset.fallMissing (by rw [State.pos_setPos_same]; exact hst)
    · exact hset
  obtain h | h | h | h := hx.before
  · rw [State.restoreHold_none h]; exact hs
  · exact hrestored _ (.inl rfl) h
  · exact hrestored _ (.inr rfl) h
  · rw [State.restoreHold_missing h]
    refine (hs.setPos (State.restoredMissing_lawful hx hp) (hs.detachedAt rfl hnotDetached nofun)).latchAll
      .restore fun t ht => ?_
    obtain ⟨k, -, rfl⟩ := List.mem_map.1 ht
    rw [State.pos_setPos_same]
    nofun

/-! Record resets, the walk, deliveries. -/

theorem loadedPosition_lawful (p : Pos) (id : Option SensorId) (present : Bool) (now : Tick) :
    (loadedPosition p id present now).Lawful := by
  cases id with
  | none => exact Position.lawful_of_empty
  | some x =>
    rw [loadedPosition_some]
    by_cases h : inTruck p = true ∨ present = true
    · simp only [if_pos h]
      exact ⟨nofun, fun _ => rfl, ⟨fun _ => .inl rfl, fun _ => rfl⟩, ⟨nofun, nofun⟩, .inl rfl, ⟨nofun, nofun⟩,
        fun _ _ => rfl, nofun, fun _ => hasKind_zero _, nofun⟩
    · simp only [if_neg h]
      exact ⟨nofun, fun _ => rfl, ⟨nofun, nofun⟩, ⟨nofun, nofun⟩, .inl rfl, ⟨nofun, nofun⟩, fun _ _ => rfl, nofun,
        fun _ => hasKind_zero _, nofun⟩

theorem loadedPosition_detachedAt (p : Pos) (id : Option SensorId) (present : Bool) (now : Tick) :
    (loadedPosition p id present now).DetachedAt p present := by
  unfold Position.DetachedAt
  cases id with
  | none => exact ⟨nofun, fun h => nomatch h.2.1⟩
  | some x =>
    rw [loadedPosition_some]
    by_cases h : inTruck p = true ∨ present = true
    · simp only [if_pos h, reduceCtorEq, false_iff]
      rintro ⟨htruck, -, hpresent⟩
      rw [htruck, hpresent] at h
      exact h.elim nofun nofun
    · simp only [if_neg h, true_iff]
      rw [not_or, Bool.not_eq_true, Bool.not_eq_true] at h
      exact ⟨h.1, rfl, h.2⟩

theorem State.PositionLaw.recordReset {s : State} (hs : s.PositionLaw) (p : Pos) (id : Option SensorId) :
    (s.recordReset p id).PositionLaw := by
  have hset := hs.setPos (loadedPosition_lawful p id s.trailerPresent s.tick) (loadedPosition_detachedAt ..)
  rw [State.recordReset_eq_setPos]
  exact (hset.dropPartnerImbalance p).of_eq rfl rfl

theorem State.PositionLaw.advanceTeach {s : State} (hs : s.PositionLaw) (t : TeachSession) (h : Pos)
    (rest : List Pos) (n : Nat) : (s.advanceTeach t h rest n).PositionLaw :=
  hs.of_eq (by rw [State.advanceTeach_eq]) (by rw [State.advanceTeach_eq])

theorem State.PositionLaw.teachTrigger {s : State} (hs : s.PositionLaw) (t : TeachSession) (d : Delivery) :
    (s.teachTrigger t d).PositionLaw := by
  have hreset : ∀ {u : State} (p : Pos) (id : Option SensorId), u.PositionLaw → (u.teachReset p id).PositionLaw :=
    fun p id hu => (hu.recordReset p id).of_holdings rfl
  have hassign : ∀ h rest q, (s.teachAssign t h rest d q).PositionLaw := by
    intro h rest q
    cases q with
    | none => exact ((hreset h _ hs).landNormally h d).advanceTeach ..
    | some q => exact ((hreset h _ (hreset q _ hs)).landNormally h d).advanceTeach ..
  have hignored : ∀ {u : State} (code : Byte) (p h : Pos), u.PositionLaw →
      (u.teachIgnored code d.id p h).PositionLaw := fun code p h hu => hu.of_holdings rfl
  unfold State.teachTrigger
  split
  · exact hs
  · next h rest hq =>
    split
    · next q hholder =>
      split
      · unfold State.teachConfirm; dsimp only
        refine ((?_ : State.PositionLaw _).landNormally h d).advanceTeach ..
        split
        · next hheld => exact hs.restoreHold hheld
        · exact hs
      · split
        · exact hignored _ _ _ (hs.landNormally q d)
        · split
          · exact hignored _ _ _ (hs.landNormally q d)
          · exact hassign ..
    · split
      · exact hignored _ _ _ (hs.of_eq rfl rfl)
      · exact hassign ..

theorem State.PositionLaw.deliver {s : State} (hs : s.PositionLaw) (d : Delivery) : (s.deliver d).PositionLaw := by
  have hwarned : ∀ {u : State}, u.PositionLaw → u.recomputeWarn.PositionLaw := fun hu =>
    hu.of_holdings (State.holdings_recomputeWarn _)
  unfold State.deliver
  split
  · split
    · exact hwarned (hs.teachTrigger _ d)
    · exact hs.of_eq rfl rfl
  · split
    · exact hs
    · split
      · exact hwarned (hs.teachTrigger _ d)
      · exact hwarned (hs.landNormally _ d)

/-! The trailer, acknowledgements, kept ticks, edits, the load. -/

theorem State.PositionLaw.decouple {s : State} (hs : s.PositionLaw) (hpresent : s.trailerPresent = true) :
    s.decouple.PositionLaw := by
  have hnotDetached : ∀ p, (s.pos p).state ≠ .detached := fun p h => by
    obtain ⟨-, -, habsent⟩ := (hs.detached p).1 h
    rw [hpresent] at habsent
    cases habsent
  refine ⟨fun p => ?_, fun p => ?_⟩
  · rw [State.pos_decouple]
    split
    · exact hs.lawful p
    · unfold detach
      split
      · next hsensor =>
        exact ⟨nofun, fun _ => hsensor, ⟨nofun, nofun⟩, ⟨nofun, nofun⟩, .inl rfl, ⟨nofun, nofun⟩, fun _ _ => rfl, nofun,
          fun _ => hasKind_zero _, nofun⟩
      · exact hs.lawful p
  · have habsent : s.decouple.trailerPresent = false := rfl
    rw [State.pos_decouple, habsent]
    split
    · next htruck => simp only [hnotDetached p, htruck, Bool.true_eq_false, false_and]
    · next htrailer =>
      unfold detach
      split
      · next hsensor => simp only [hsensor, and_self, and_true, true_iff]; exact Bool.not_eq_true _ ▸ htrailer
      · next hsensor => simp only [hnotDetached p, hsensor, Bool.false_eq_true, false_and, and_false]

theorem State.PositionLaw.recouple {s : State} (hs : s.PositionLaw) : s.recouple.PositionLaw := by
  refine ⟨fun p => ?_, fun p => ?_⟩
  · rw [State.pos_recouple]
    have hx := hs.lawful p
    split
    · next hdetached =>
      have hne : (s.pos p).state ≠ .unassigned ∧ (s.pos p).state ≠ .active ∧ (s.pos p).state ≠ .missing ∧
          (s.pos p).state ≠ .held := by rw [hdetached]; decide
      obtain ⟨hassigned, hactive, hmissing, hheld⟩ := hne
      have hbefore := hx.beforeHold_eq_none hheld
      refine ⟨nofun, fun _ => hx.assigned hassigned, ⟨fun _ => .inl rfl, fun _ => rfl⟩, ⟨fun h => ?_, nofun⟩, hx.before,
        hx.remaining, fun _ _ => hx.quiet hactive hmissing, nofun, fun _ => hx.alive hmissing, fun h => ?_⟩
      · exact absurd (hx.held.1 h) hheld
      · obtain h | h := h
        · cases h
        · exact hx.sampled (.inr h)
    · exact hx
  · have hpresent : s.recouple.trailerPresent = true := rfl
    rw [State.pos_recouple, hpresent]
    split
    · exact ⟨nofun, fun h => nomatch h.2.2⟩
    · next h => exact ⟨fun hd => absurd hd h, fun h => nomatch h.2.2⟩

theorem Position.Lawful.acknowledge {x : Position} (hx : x.Lawful) (port : Port) : (x.acknowledge port).Lawful := by
  by_cases hassigned : x.state = .unassigned
  · obtain rfl := hx.unassigned hassigned
    have hempty : Position.empty.acknowledge port = Position.empty := by cases port <;> rfl
    rw [hempty]
    exact Position.lawful_of_empty
  · exact hx.of_core hassigned rfl

theorem Position.Lawful.saturate {x : Position} (hx : x.Lawful) (now : Tick) : (x.saturate now).Lawful := by
  by_cases hassigned : x.state = .unassigned
  · obtain rfl := hx.unassigned hassigned
    exact Position.lawful_of_empty
  · refine hx.of_core hassigned ?_
    simp only [Position.core, Position.saturate, Option.isSome_map]

theorem State.PositionLaw.startRunning (s : State) : s.startRunning.PositionLaw where
  lawful p := by rw [State.pos_startRunning]; exact loadedPosition_lawful ..
  detached p := by rw [State.pos_startRunning]; exact loadedPosition_detachedAt ..

/-- A position emptied, or left but for an IMBALANCE, or left as it was. -/
theorem State.PositionLaw.of_emptied {s t : State} (hs : s.PositionLaw) (htrailer : t.trailerPresent = s.trailerPresent)
    (hpos : ∀ p, t.pos p = Position.empty ∨ t.pos p = (s.pos p).withoutImbalance ∨ t.pos p = s.pos p) :
    t.PositionLaw where
  lawful p := by
    obtain h | h | h := hpos p <;> rw [h]
    · exact Position.lawful_of_empty
    · exact (hs.lawful p).dropKind .imbalance
    · exact hs.lawful p
  detached p := by
    obtain h | h | h := hpos p <;> rw [h, htrailer]
    · exact ⟨nofun, fun h => nomatch h.2.1⟩
    · exact hs.detached p
    · exact hs.detached p

theorem State.trailerPresent_takeKind (s : State) (a : AxleNo) (k : AxleKind) :
    (s.takeKind a k).trailerPresent = s.trailerPresent := by
  unfold State.takeKind
  split
  · rfl
  · rw [State.changeKind_eq]

theorem State.PositionLaw.writesAxle {s : State} (hs : s.PositionLaw) (w : AxleWrite) (k : AxleKind) :
    ((s.takeKind w.axle k).setAxle w.axle (s.axleWritten w k)).PositionLaw := by
  refine hs.of_emptied (s.trailerPresent_takeKind w.axle k) fun p => ?_
  have hpos : ((s.takeKind w.axle k).setAxle w.axle (s.axleWritten w k)).pos p = (s.takeKind w.axle k).pos p := rfl
  rw [hpos, State.pos_takeKind]
  split
  · exact .inl rfl
  · split
    · exact .inr (.inl rfl)
    · exact .inr (.inr rfl)

theorem State.PositionLaw.clears {s : State} (hs : s.PositionLaw) (truck : Bool) :
    (s.clearVehicleSection truck).PositionLaw := by
  have htrailer : (s.clearVehicleSection truck).trailerPresent = s.trailerPresent :=
    (congrArg Holdings.trailerPresent (s.holdings_clearVehicleSection truck)).trans (by rw [State.resetAll_eq]; rfl)
  refine hs.of_emptied htrailer fun p => ?_
  rw [State.pos_clearVehicleSection]
  split
  · split
    · exact .inl rfl
    · split
      · exact .inr (.inl rfl)
      · exact .inr (.inr rfl)
  · exact .inr (.inr rfl)

theorem State.PositionLaw.moves {s u : State} {c : Instr} (hs : s.PositionLaw) (h : s.Moves c u) :
    u.PositionLaw := by
  cases h with
  | stays c => exact hs
  | restarts straps cut => exact reset_positionLaw.of_eq rfl rfl
  | starts hp => exact .startRunning s
  | startsRaised change hp hc =>
    exact ((State.PositionLaw.startRunning s).of_eq rfl rfl :
      ({ s.startRunning with stack := change.stack } : State).PositionLaw).settles (State.changeStack_settles _ change)
  | delivers c ready e later hm hh ht hg => exact (hs.of_holdings hh).deliver _
  | expires p hp =>
    exact hs.fallMissing ((hs.lawful p).deadline.1 (Option.isSome_iff_exists.2 ⟨_, hp⟩))
  | couples hp => exact hs.recouple
  | decouples hp => exact hs.decouple hp
  | restacks c ready change hh hc =>
    exact ((hs.of_holdings hh).of_eq rfl rfl : ({ ready with stack := change.stack } : State).PositionLaw).settles
      (ready.changeStack_settles change)
  | acknowledges r ps =>
    refine hs.of_pos (s.mapPos_trailerPresent _) fun p => ?_
    rw [State.pos_mapPos]
    split
    · exact ⟨(hs.lawful p).acknowledge r.port, rfl, rfl⟩
    · exact ⟨hs.lawful p, rfl, rfl⟩
  | holds r p hp => exact hs.takeHold hp
  | unholds r p hp => exact hs.restoreHold hp
  | writesPosition r p id hr hid => exact hs.recordReset p id
  | writesAxle r w k hr => exact (hs.writesAxle w k).settles (s.applyAxle_settles w k)
  | writesProfile r w hr =>
    exact (hs.of_eq rfl rfl : (s.setProfile _ _).PositionLaw).settles (s.applyProfile_settles _ _)
  | writesSettings r w x hr hx =>
    exact (hs.of_eq rfl rfl : ({ s with settings := x } : State).PositionLaw).settles (s.applySettings_settles x)
  | clears r truck hr => exact hs.clears truck
  | takesContext r hp =>
    exact (hs.of_eq rfl rfl : ({ s with context := s.contextAfter r } : State).PositionLaw).reevaluate
  | saturates =>
    refine hs.of_pos (by rw [State.saturated_frame]) fun p => ?_
    rw [State.pos_saturated]
    exact ⟨(hs.lawful p).saturate s.tick, rfl, rfl⟩

/-- Settles O53: each move of the wheel table keeps what the position states say. -/
theorem stepKeepsPositionLaw : Obligations.StepKeepsPositionLaw := by
  intro s t hs hstep
  obtain hstays | ⟨c, rest, -, u, hmove, ht⟩ := step_moves hstep
  · exact hs.of_holdings hstays
  · have hrest : ({ s with pending := rest } : State).PositionLaw := hs.of_holdings rfl
    exact (hrest.moves hmove).of_holdings ht

/-! ### The revision (R151) -/

/-- The revision of the stored values. -/
def State.revision (s : State) : Word16 := s.grant.revision

theorem revision_ite {p : Prop} [Decidable p] {s t u : State} (ht : t.revision = s.revision)
    (hu : u.revision = s.revision) : (if p then t else u).revision = s.revision := by
  split
  · exact ht
  · exact hu

/-! One lemma for each operation that leaves the revision. -/

@[simp] theorem State.revision_setPort (s : State) (p : Port) (c : PortCtl) :
    (s.setPort p c).revision = s.revision := rfl
@[simp] theorem State.revision_setLine (s : State) (i : Fin 4) (x : Line) :
    (s.setLine i x).revision = s.revision := rfl
@[simp] theorem State.revision_notice (s : State) (code : Byte) (data : List Byte) :
    (s.notice code data).revision = s.revision := rfl
@[simp] theorem State.revision_answer (s : State) (r : Request) (code : Byte) (frames : List (List Byte)) :
    (s.answer r code frames).revision = s.revision := by rw [State.answer_eq]; rfl
@[simp] theorem State.revision_reply (s : State) (r : Request) (code : Byte) (o : Reply) :
    (s.reply r code o).revision = s.revision := s.revision_answer r code _
@[simp] theorem State.revision_refuse (s : State) (r : Request) (code : Byte) (o : Reply) :
    (s.refuse r code o).revision = s.revision := by
  obtain ⟨frames, h⟩ := s.refuse_is_answer r code o
  rw [h, State.revision_answer]
@[simp] theorem State.revision_recomputeWarn (s : State) : s.recomputeWarn.revision = s.revision := by
  rw [State.recomputeWarn_eq]; rfl
@[simp] theorem State.revision_refreshIdle (s : State) : s.refreshIdle.revision = s.revision := by
  rw [State.refreshIdle_eq]; rfl
@[simp] theorem State.revision_mark (s : State) (n : SectionName) : (s.mark n).revision = s.revision := rfl
@[simp] theorem State.revision_reevaluate (s : State) : s.reevaluate.revision = s.revision := by
  rw [State.reevaluate_eq]; rfl
@[simp] theorem State.revision_endTeach (s : State) (o : TeachOutcome) :
    (s.endTeach o).revision = s.revision := by rw [State.endTeach_eq]; rfl
@[simp] theorem State.revision_removeFromTeach (s : State) (gone : Pos → Bool) (also : Bool) (o : TeachOutcome) :
    (s.removeFromTeach gone also o).revision = s.revision := by rw [State.removeFromTeach_eq]; rfl
@[simp] theorem State.revision_deliver (s : State) (d : Delivery) : (s.deliver d).revision = s.revision := by
  rw [State.deliver_eq]; rfl
@[simp] theorem State.revision_changeStack (s : State) (c : StackChange) :
    (s.changeStack c).revision = s.revision := by rw [State.changeStack_eq]; rfl
@[simp] theorem State.revision_reportAxle (s : State) (p : Port) (a : AxleNo) :
    (s.reportAxle p a).revision = s.revision := by rw [State.reportAxle_eq]; rfl
@[simp] theorem State.revision_fallMissing (s : State) (p : Pos) : (s.fallMissing p).revision = s.revision := by
  rw [State.fallMissing_eq]; rfl
@[simp] theorem State.revision_restoreHold (s : State) (p : Pos) : (s.restoreHold p).revision = s.revision := by
  rw [State.restoreHold_eq]; rfl
@[simp] theorem State.revision_recouple (s : State) : s.recouple.revision = s.revision := by
  simp only [State.revision, State.recouple, State.mapPos]
@[simp] theorem State.revision_decouple (s : State) : s.decouple.revision = s.revision := by
  simp only [State.revision, State.decouple, State.mapPos]
@[simp] theorem State.revision_saturated (s : State) : s.saturated.revision = s.revision := by
  rw [State.saturated_frame]; simp only [State.revision]
@[simp] theorem State.revision_takeKind (s : State) (a : AxleNo) (k : AxleKind) :
    (s.takeKind a k).revision = s.revision :=
  revision_ite rfl (by rw [State.changeKind_eq]; rfl)
@[simp] theorem State.revision_beginTenure (s : State) (p : Port) (waiting : List Port) :
    (s.beginTenure p waiting).revision = s.revision := rfl
@[simp] theorem State.revision_joinWaiting (s : State) (p : Port) : (s.joinWaiting p).revision = s.revision :=
  revision_ite rfl rfl
@[simp] theorem State.revision_handover (s : State) : s.handover.revision = s.revision := by
  unfold State.handover
  split <;> rfl
@[simp] theorem State.revision_restartFlash (s : State) : s.restartFlash.revision = s.revision := revision_ite rfl rfl

@[simp] theorem State.revision_applyAxle (s : State) (w : AxleWrite) (k : AxleKind) :
    (s.applyAxle w k).revision = s.revision := by
  rw [State.applyAxle_eq]; dsimp only
  rw [State.revision_recomputeWarn, State.revision_refreshIdle]
  have hwritten : ∀ x, ((s.takeKind w.axle k).setAxle w.axle x).revision = s.revision := fun _ =>
    s.revision_takeKind w.axle k
  split
  · exact revision_ite (hwritten _) (hwritten _)
  · rw [State.revision_reevaluate]
    exact revision_ite (hwritten _) (hwritten _)

@[simp] theorem State.revision_applyProfile (s : State) (i : ProfileNo) (x : Profile) :
    (s.applyProfile i x).revision = s.revision := by
  simp only [State.applyProfile, State.revision_recomputeWarn, State.revision_refreshIdle]
  exact revision_ite rfl (revision_ite (State.revision_reevaluate _) rfl)

@[simp] theorem State.revision_applySettings (s : State) (x : Settings) :
    (s.applySettings x).revision = s.revision := by
  have hstored : ∀ u : State, u.revision = s.revision →
      (if x.tref = s.settings.tref then u else u.reevaluate).refreshIdle.recomputeWarn.revision = s.revision :=
    fun u hu => by
      rw [State.revision_recomputeWarn, State.revision_refreshIdle]
      exact revision_ite hu ((State.revision_reevaluate _).trans hu)
  unfold State.applySettings; dsimp only
  refine revision_ite (hstored _ (revision_ite rfl rfl)) ((State.revision_restartFlash _).trans ?_)
  exact hstored _ (revision_ite rfl rfl)

@[simp] theorem State.revision_clearVehicleSection (s : State) (truck : Bool) :
    (s.clearVehicleSection truck).revision = s.revision := by
  have hcleared : ((s.sectionAbsent truck).resetAll (allPositions.filter fun p => inTruck p == truck)).revision =
      s.revision := by rw [State.resetAll_eq]; rfl
  unfold State.clearVehicleSection; dsimp only
  rw [← State.sectionAbsent]
  exact revision_ite ((State.revision_mark _ _).trans ((State.revision_removeFromTeach ..).trans hcleared))
    ((State.revision_removeFromTeach ..).trans hcleared)

theorem State.revision_takeByte (s : State) (i : Fin 4) (v : Byte) : (s.takeByte i v).revision = s.revision := by
  obtain ⟨y, hbyte | ⟨copy, -, hbyte⟩, -⟩ := s.takeByte_cases i v
  · rw [hbyte]; rfl
  · rw [hbyte]
    unfold State.takeCopy
    refine revision_ite rfl (revision_ite rfl ?_)
    split
    · rfl
    · exact State.revision_deliver _ _

theorem State.revision_finishSection (s : State) (n : SectionName) (rest : List SectionName) (r : SaveResult) :
    (s.finishSection n rest r).revision = s.revision := by
  unfold State.finishSection; dsimp only
  cases r with
  | passedFirst => exact revision_ite (State.revision_handover _) rfl
  | passedSecond => exact revision_ite (State.revision_handover _) rfl
  | failedTwice => exact revision_ite (State.revision_handover _) rfl

theorem State.revision_bodyRises (s : State) : s.bodyRises.revision = s.revision := by
  unfold State.bodyRises
  split
  · rfl
  · exact s.revision_changeStack _

theorem State.revision_bodyFalls (s : State) : s.bodyFalls.revision = s.revision := by
  unfold State.bodyFalls
  split
  · rfl
  · exact s.revision_changeStack _

/-- The revision stays, or the holder's tenure has ended with sections to save (R151). -/
def State.RevisionRule (s t : State) : Prop :=
  t.revision = s.revision ∨ (∃ p, s.grant.state = .held p) ∧ t.grant.state = .saving

theorem State.RevisionRule.refl (s : State) : s.RevisionRule s := .inl rfl

theorem revisionRule_ite {p : Prop} [Decidable p] {s t u : State} (ht : p → s.RevisionRule t)
    (hu : ¬ p → s.RevisionRule u) : s.RevisionRule (if p then t else u) := by
  split
  · next h => exact ht h
  · next h => exact hu h

theorem State.RevisionRule.request {α : Type} {s : State} {r : Request} {code : Byte} {ops : Option α}
    {own : α → State → State} (hown : ∀ x, s.RevisionRule (own x s)) : s.RevisionRule (s.request r code ops own) := by
  obtain h | ⟨o, h⟩ | ⟨-, x, -, h⟩ := s.request_cases r code ops own
  · rw [h]; exact .refl s
  · rw [h]; exact .inl (s.revision_refuse r code o)
  · rw [h]; exact hown x

theorem State.RevisionRule.edit {α : Type} {s : State} {r : Request} {code : Byte} {ops : Option α}
    {own : α → State → State} (hown : ∀ x, (own x s).revision = s.revision) : s.RevisionRule (s.edit r code ops own) :=
  .request fun x => .inl (revision_ite (hown x) (s.revision_refuse r code .noGrant))

theorem State.revisionRule_endTenure {s u : State} {p : Port} (hheld : ∃ p, s.grant.state = .held p)
    (hu : u.revision = s.revision) : s.RevisionRule (u.endTenure p) := by
  unfold State.endTenure; dsimp only
  split
  · exact .inr ⟨hheld, rfl⟩
  · refine .inl ((State.revision_handover _).trans ?_)
    exact (State.revision_endTeach u .aborted).trans hu

theorem State.revisionRule_portReset (s : State) (port : Port) : s.RevisionRule (s.portReset port) := by
  unfold State.portReset State.grantPortReset; dsimp only
  exact revisionRule_ite (fun hheld => State.revisionRule_endTenure ⟨port, hheld⟩ rfl) fun _ => .inl rfl

theorem exec_revisionRule_of_event {c : Instr} {s t : State} (hc : requestOf c = none) (hp : s.phase = .running)
    (hreset : ∀ straps cut, c ≠ .deviceReset straps cut) (h : exec c s = .next t) : s.RevisionRule t := by
  cases c with
  | deviceReset straps cut => exact absurd rfl (hreset straps cut)
  | endOfStarting => cases h; exact revisionRule_ite (fun hs => by rw [hp] at hs; cases hs) fun _ => .refl s
  | receivedByte i high v => cases h; exact .inl (revision_ite (s.revision_takeByte i v) rfl)
  | gapExpiry run => cases h; exact .inl (revision_ite rfl rfl)
  | windowExpiry id seq =>
    cases h
    split
    · exact .refl s
    · exact .inl (revision_ite (State.revision_deliver _ _) rfl)
  | deadlineExpiry p =>
    cases h
    exact .inl (revision_ite (by rw [State.revision_recomputeWarn, State.revision_fallMissing]) rfl)
  | stepDeadlineExpiry =>
    cases h
    split
    · exact .refl s
    · exact .inl (revision_ite (s.revision_endTeach _) rfl)
  | trlChange high => cases h; exact .inl rfl
  | trlDebounceExpiry =>
    cases h
    refine .inl (revision_ite ?_ rfl)
    rw [State.revision_recomputeWarn]
    exact revision_ite (State.revision_recouple _)
      ((State.revision_removeFromTeach ..).trans (State.revision_decouple _))
  | bodyChange high => cases h; exact .inl rfl
  | bodyDebounceExpiry =>
    cases h
    refine .inl (revision_ite ?_ rfl)
    rw [State.revision_recomputeWarn]
    exact revision_ite (State.revision_bodyRises _) (State.revision_bodyFalls _)
  | flashPhase => cases h; exact .inl (revision_ite rfl rfl)
  | cyclicReport port =>
    cases h
    refine .inl (revision_ite ?_ rfl)
    dsimp only
    split
    · rfl
    · rw [State.revision_setPort, State.revision_reportAxle, State.revision_setPort]
  | frameOffer port =>
    cases h
    refine .inl (revision_ite ?_ rfl)
    split <;> rfl
  | attemptEnd port result =>
    cases h
    refine revisionRule_ite (fun _ => ?_) fun _ => .refl s
    cases result with
    | success => exact .inl rfl
    | lostArbitration => exact .inl rfl
    | failure => exact revisionRule_ite (fun _ => s.revisionRule_portReset port) fun _ => .inl rfl
  | busOffReturn port =>
    cases h
    dsimp only
    split
    · exact .refl s
    · exact .inl (revision_ite rfl rfl)
  | idleExpiry =>
    cases h
    split
    · next p hheld =>
      exact revisionRule_ite (fun _ => State.revisionRule_endTenure ⟨p, hheld⟩ rfl) fun _ => .refl s
    · exact .refl s
    · exact .refl s
  | sectionSave result =>
    cases h
    refine .inl (revision_ite ?_ rfl)
    split
    · rfl
    · exact s.revision_finishSection _ _ _
  | keptTickSaturation =>
    obtain rfl : s.saturated = t := Host.Outcome.next.inj h
    exact .inl s.revision_saturated
  | _ => cases hc

theorem exec_revisionRule_of_request {c : Instr} {s t : State} (hc : (requestOf c).isSome = true)
    (h : exec c s = .next t) : s.RevisionRule t := by
  cases c with
  | readPosition r => cases h; exact .request fun _ => .inl (State.revision_answer ..)
  | readAxle r => cases h; exact .request fun _ => .inl (State.revision_answer ..)
  | readProfile r => cases h; exact .request fun _ => .inl (State.revision_answer ..)
  | readSettings r => cases h; exact .request fun _ => .inl (State.revision_answer ..)
  | readForeign r =>
    cases h
    refine .request fun i => ?_
    split
    · exact .inl (s.revision_refuse ..)
    · exact .inl (s.revision_answer ..)
  | readLineStatus r =>
    cases h
    exact .request fun q => .inl ((State.revision_answer ..).trans (revision_ite rfl rfl))
  | readStack r => cases h; exact .request fun _ => .inl (State.revision_answer ..)
  | readStatus r => cases h; exact .request fun _ => .inl (State.revision_answer ..)
  | ack r =>
    cases h
    refine .request fun ps => .inl ?_
    rw [State.revision_answer, State.revision_recomputeWarn]
    exact congrArg Grant.revision (s.mapPos_grant _)
  | hold r =>
    cases h
    refine .request fun p => .inl ?_
    have htaken : ((s.takeHold p).recomputeWarn.reply r codeHold .done).revision = s.revision := by
      rw [State.revision_reply, State.revision_recomputeWarn, State.takeHold_eq]; rfl
    split
    · exact s.revision_refuse ..
    · exact s.revision_refuse ..
    · exact s.revision_reply ..
    · exact htaken
    · exact htaken
    · exact htaken
  | unhold r =>
    cases h
    refine .request fun p => .inl (revision_ite ?_ (s.revision_reply ..))
    rw [State.revision_reply, State.revision_recomputeWarn, State.revision_restoreHold]
  | push r =>
    cases h
    refine .request fun i => .inl ?_
    rw [State.revision_reply, State.revision_recomputeWarn, State.revision_changeStack]
  | pop r =>
    cases h
    refine .request fun _ => .inl ?_
    split
    · exact s.revision_refuse ..
    · rw [State.revision_reply, State.revision_recomputeWarn, State.revision_changeStack]
  | grantRequest r =>
    cases h
    refine .request fun _ => .inl ?_
    split
    · rw [State.revision_reply, State.revision_beginTenure]
    · exact revision_ite (by rw [State.revision_reply, State.revision_refreshIdle])
        (by rw [State.revision_reply, State.revision_joinWaiting])
    · rw [State.revision_reply, State.revision_joinWaiting]
  | grantRelease r =>
    cases h
    refine .request fun _ => revisionRule_ite (fun hheld => ?_) fun _ =>
      .inl (revision_ite (State.revision_reply ..) (s.revision_refuse ..))
    obtain hkept | ⟨hholder, hsaving⟩ := State.revisionRule_endTenure (s := s) (u := s) (p := r.port) ⟨_, hheld⟩ rfl
    · exact .inl ((State.revision_reply ..).trans hkept)
    · exact .inr ⟨hholder, (congrArg Grant.state (State.answer_grant ..)).trans hsaving⟩
  | writePosition r =>
    cases h
    refine .edit fun w => revision_ite (s.revision_refuse ..) (revision_ite (s.revision_refuse ..)
      (revision_ite ?_ ?_))
    · rw [State.revision_reply, State.revision_recomputeWarn, State.revision_refreshIdle, State.revision_mark]
      rfl
    · rw [State.revision_reply, State.revision_refreshIdle]
  | writeAxle r =>
    cases h
    refine .edit fun w => ?_
    dsimp only
    split
    · exact s.revision_refuse ..
    · refine revision_ite (by rw [State.revision_reply, State.revision_refreshIdle]) ?_
      exact revision_ite (s.revision_refuse ..) (by rw [State.revision_reply, State.revision_applyAxle])
  | writeProfile r =>
    cases h
    exact .edit fun w => revision_ite (by rw [State.revision_reply, State.revision_applyProfile])
      (by rw [State.revision_reply, State.revision_refreshIdle])
  | writeSettings r =>
    cases h
    refine .edit fun w => ?_
    split
    · exact s.revision_refuse ..
    · rw [State.revision_reply, State.revision_applySettings]
  | clearSection r =>
    cases h
    refine .edit fun truck => revision_ite (s.revision_refuse ..) ?_
    rw [State.revision_reply, State.revision_recomputeWarn, State.revision_refreshIdle,
      State.revision_clearVehicleSection]
  | lockTruck r =>
    cases h
    refine .edit fun _ => ?_
    rw [State.revision_reply, State.revision_refreshIdle]
    rfl
  | teachStart r =>
    cases h
    refine .edit fun codes => revision_ite (s.revision_refuse ..) ?_
    split
    · exact s.revision_refuse ..
    · exact State.revision_answer ..
  | teachAppend r =>
    cases h
    refine .edit fun codes => ?_
    split
    · exact s.revision_refuse ..
    · split
      · exact s.revision_refuse ..
      · exact State.revision_answer ..
  | teachAbort r =>
    cases h
    refine .edit fun _ => ?_
    split
    · exact s.revision_refuse ..
    · rw [State.revision_reply, State.revision_endTeach]
  | vehicleState r =>
    cases h
    exact .inl (revision_ite (by rw [State.revision_recomputeWarn, State.revision_reevaluate]; rfl) rfl)
  | unknownRequest code r =>
    cases hcode : namesRequest code with
    | false =>
      rw [exec_unknownRequest hcode] at h
      cases h
      exact .request fun _ => .refl s
    | true => rw [exec_unknownRequest_known hcode] at h; cases h
  | _ => cases hc

/-- A revision changes only as the grant leaves HELD for SAVING. -/
theorem exec_revisionRule {c : Instr} {s t : State} (hp : s.phase = .running)
    (hreset : ∀ straps cut, c ≠ .deviceReset straps cut) (h : exec c s = .next t) : s.RevisionRule t := by
  cases hc : requestOf c with
  | none => exact exec_revisionRule_of_event hc hp hreset h
  | some codeAndFrame => exact exec_revisionRule_of_request (hc ▸ rfl) h

/-! ### Who changes a stored value (R38, R135, R138, R144) -/

/-- The command is an edit served on the port that holds the grant. -/
def State.HolderEdits (s : State) (c : Instr) : Prop :=
  ∃ code r, requestOf c = some (code, r) ∧ code ∈ editCodes ∧ s.servesHolder r

theorem State.HolderEdits.intro {s : State} {c : Instr} (code : Byte) {r : Request}
    (hc : requestOf c = some (code, r)) (h : s.servesHolder r) (hcode : code ∈ editCodes := by decide) :
    s.HolderEdits c := ⟨code, r, hc, hcode, h⟩

/-- A position's sensor changed by a trigger of the oldest window: it comes to the head of the holder's session, or
leaves its position. -/
def State.SessionMovesSensor (s t : State) (p : Pos) : Prop :=
  ∃ session e later, s.teach = some session ∧ s.grant.state = .held session.owner ∧ s.merge = e :: later ∧
    e.content.kind = .trigger ∧
    ((t.pos p).sensor = none ∨ (t.pos p).sensor = some e.id ∧ session.queue.head? = some p)

theorem State.Moves.sensor_changed {s u : State} {c : Instr} {p : Pos} (hgrant : s.GrantLaw)
    (hp : s.phase = .running) (hreset : ∀ straps cut, c ≠ .deviceReset straps cut) (h : s.Moves c u)
    (hchanged : u.sensors p ≠ s.sensors p) : s.HolderEdits c ∨ s.SessionMovesSensor u p := by
  have hstarting : s.phase ≠ .starting := by rw [hp]; decide
  have hkept : u.sensors = s.sensors → s.HolderEdits c ∨ s.SessionMovesSensor u p := fun hu =>
    absurd (congrFun hu p) hchanged
  cases h with
  | stays c => exact hkept rfl
  | restarts straps cut => exact absurd rfl (hreset straps cut)
  | starts hs => exact absurd hs hstarting
  | startsRaised change hs hc => exact absurd hs hstarting
  | delivers c ready e later hm hh ht hg =>
    have hsensors : ready.sensors = s.sensors := State.sensors_of_holdings hh
    cases ready.deliver_delivered e.delivery with
    | keeps hs hf => exact hkept (hs.trans hsensors)
    | hears hn hs hf => exact hkept (hs.trans hsensors)
    | moves session h rest hsession hqueue hkind hne hs hf =>
      have hteach : s.teach = some session := ht.symm.trans hsession
      refine .inr ⟨session, e, later, hteach, hgrant.owner session hteach, hm, hkind, ?_⟩
      have hmoved : ((ready.deliver e.delivery).pos p).sensor = _ := congrFun hs p
      by_cases hhead : p = h
      · exact .inr ⟨hmoved.trans (if_pos hhead), by rw [hqueue, hhead]; rfl⟩
      · by_cases hleft : ready.holder e.delivery.id = some p
        · exact .inl (hmoved.trans ((if_neg hhead).trans (if_pos hleft)))
        · have hstays := hmoved.trans ((if_neg hhead).trans (if_neg hleft))
          exact absurd (hstays.trans (congrFun hsensors p)) hchanged
  | expires p hp => exact hkept (s.sensors_fallMissing p)
  | couples hp => exact hkept s.sensors_recouple
  | decouples hp => exact hkept s.sensors_decouple
  | restacks c ready change hh hc => exact hkept ((ready.sensors_changeStack change).trans (State.sensors_of_holdings hh))
  | acknowledges r ps => exact hkept (s.sensors_acknowledge r ps)
  | holds r p hp => exact hkept (s.sensors_takeHold p)
  | unholds r p hp => exact hkept (s.sensors_restoreHold p)
  | writesPosition r p id hr hid => exact .inl (.intro 0x30 rfl hr)
  | writesAxle r w k hr => exact .inl (.intro 0x31 rfl hr)
  | writesProfile r w hr => exact .inl (.intro 0x32 rfl hr)
  | writesSettings r w x hr hx => exact .inl (.intro 0x33 rfl hr)
  | clears r truck hr => exact .inl (.intro 0x34 rfl hr)
  | takesContext r hp => exact hkept (State.sensors_reevaluate _)
  | saturates => exact hkept s.sensors_saturated

/-- The axles, profiles and settings together: what the store keeps beside the sensor IDs and the revision. -/
def Values.stored (x : Values) : Vector Axle 8 × Vector Profile 6 × Settings := (x.axles, x.profiles, x.settings)

theorem State.Moves.stored_kept {s u : State} {c : Instr} (hp : s.phase = .running)
    (hreset : ∀ straps cut, c ≠ .deviceReset straps cut) (h : s.Moves c u) :
    u.values.stored = s.values.stored ∨ s.HolderEdits c := by
  have hstarting : s.phase ≠ .starting := by rw [hp]; decide
  have hkept : ∀ {v : State}, u.values.stored = v.values.stored → v.values.stored = s.values.stored →
      u.values.stored = s.values.stored ∨ s.HolderEdits c := fun hu hv => .inl (hu.trans hv)
  cases h with
  | stays c => exact .inl rfl
  | restarts straps cut => exact absurd rfl (hreset straps cut)
  | starts hs => exact absurd hs hstarting
  | startsRaised change hs hc => exact absurd hs hstarting
  | delivers c ready e later hm hh ht hg =>
    exact hkept (congrArg Values.stored (ready.values_deliver e.delivery))
      (congrArg Values.stored (State.values_of_holdings hh))
  | expires p hp => exact .inl (by rw [State.fallMissing_eq]; rfl)
  | couples hp => exact .inl (by rw [State.recouple_eq]; simp only [State.values, Values.stored])
  | decouples hp => exact .inl (by rw [State.decouple_eq]; simp only [State.values, Values.stored])
  | restacks c ready change hh hc =>
    have hready : ready.values.stored = s.values.stored := congrArg Values.stored (State.values_of_holdings hh)
    exact hkept (congrArg Values.stored (ready.changeStack_settles change).values) hready
  | acknowledges r ps => exact .inl (by simp only [State.mapPos, State.values, Values.stored])
  | holds r p hp => exact .inl (by rw [State.takeHold_eq]; rfl)
  | unholds r p hp => exact .inl (by rw [State.restoreHold_eq]; rfl)
  | writesPosition r p id hr hid => exact .inr (.intro 0x30 rfl hr)
  | writesAxle r w k hr => exact .inr (.intro 0x31 rfl hr)
  | writesProfile r w hr => exact .inr (.intro 0x32 rfl hr)
  | writesSettings r w x hr hx => exact .inr (.intro 0x33 rfl hr)
  | clears r truck hr => exact .inr (.intro 0x34 rfl hr)
  | takesContext r hp => exact hkept (congrArg Values.stored (State.values_reevaluate _)) rfl
  | saturates => exact .inl (by rw [State.saturated_frame]; simp only [State.values, Values.stored])

/-- Settles O59: sensors and values by the moves of the wheel table, the revision by the rule of its own. -/
theorem storedValuesChangeByHolderOnly : Obligations.StoredValuesChangeByHolderOnly := by
  intro c s t hp hreset hexec
  obtain ⟨u, hmove, ht⟩ := exec_moves hexec
  have hsensors : ∀ p, (t.pos p).sensor = (u.pos p).sensor := congrFun (State.sensors_of_holdings ht)
  refine ⟨fun hgrant p hchanged => ?sensor, ?values, fun hchanged => ?revision⟩
  case sensor =>
    obtain hedit | ⟨session, e, later, hteach, howner, hmerge, hkind, hu⟩ :=
      hmove.sensor_changed hgrant hp hreset fun h => hchanged ((hsensors p).trans h)
    · exact .inl hedit
    · exact .inr ⟨session, e, later, hteach, howner, hmerge, hkind, hsensors p ▸ hu⟩
  case values =>
    refine (hmove.stored_kept hp hreset).imp_left fun hstored => ?_
    have hall : t.values.stored = s.values.stored :=
      (congrArg Values.stored (State.values_of_holdings ht)).trans hstored
    obtain ⟨haxles, hrest⟩ := Prod.mk.inj hall
    obtain ⟨hprofiles, hsettings⟩ := Prod.mk.inj hrest
    exact ⟨haxles, hprofiles, hsettings⟩
  case revision => exact (exec_revisionRule hp hreset hexec).resolve_left hchanged

/-! ### The debounce timers (R48, R105, R161) -/

theorem debounce_differs (timer : Option Tick) (now : Tick) :
    debounce true timer now = if timer = none then some now else timer := by
  cases timer <;> rfl

/-- While STARTING a change of an input is followed and no timer runs; while RUNNING the timer is debounced. -/
theorem exec_trlChange (high : Bool) (s : State) : exec (.trlChange high) s = .next { s with
    trl := high
    trlTimer := if s.phase = .running then debounce (high != s.trailerPresent) s.trlTimer s.tick
      else s.trlTimer } := rfl

theorem exec_bodyChange (high : Bool) (s : State) : exec (.bodyChange high) s = .next { s with
    body := high
    bodyTimer := if s.phase = .running then debounce (high != (s.bodyState == .raised)) s.bodyTimer s.tick
      else s.bodyTimer } := rfl

theorem bodyState_differs {high : Bool} {b : BodyState} :
    (high != (b == .raised)) = false ↔ (high = true ↔ b = .raised) := by
  cases high <;> cases b <;> decide

/-- Settles O24: the level that returns stops the timer, one that differs starts it or lets it run. -/
theorem inputChangeRunsDebounce : Obligations.InputChangeRunsDebounce := by
  intro high s
  refine ⟨fun hp => ⟨?_, ?_⟩, fun hp hsame => ?_, fun hp hdiffers => ?_, fun hp hsame => ?_, fun hp hdiffers => ?_⟩
  · rw [exec_trlChange, hp]; rfl
  · rw [exec_bodyChange, hp]; rfl
  · rw [exec_trlChange, if_pos hp, hsame, bne_self_eq_false]; rfl
  · rw [exec_trlChange, if_pos hp, bne_iff_ne.2 hdiffers, debounce_differs]
  · rw [exec_bodyChange, if_pos hp, bodyState_differs.2 hsame]; rfl
  · rw [exec_bodyChange, if_pos hp, (Bool.not_eq_false _).mp fun h => hdiffers (bodyState_differs.1 h),
      debounce_differs]

/-! ### The routes of a delivery (R39, R40, R41) -/

theorem State.sessionFor_eq_none {s : State} {d : Delivery} :
    s.sessionFor d = none ↔ d.content.kind ≠ .trigger ∨ s.teach = none := by
  unfold State.sessionFor
  by_cases h : d.content.kind = .trigger
  · simp only [h, if_true, ne_eq, not_true_eq_false, false_or]
  · simp only [h, if_false, ne_eq, not_false_eq_true, true_or]

theorem State.deliver_stale {s : State} {d : Delivery} {p : Pos} (hp : s.holder d.id = some p)
    (hstale : stale (s.pos p) d = true) : s.deliver d = s := by
  unfold State.deliver
  rw [hp]
  exact if_pos hstale

theorem State.deliver_foreign {s : State} {d : Delivery} (hp : s.holder d.id = none)
    (hsession : s.sessionFor d = none) : s.deliver d = { s with foreign := foreignUpdate s.foreign d } := by
  unfold State.deliver
  rw [hp, hsession]

theorem State.deliver_landed {s : State} {d : Delivery} {p : Pos} (hp : s.holder d.id = some p)
    (hstale : stale (s.pos p) d = false) (hsession : s.sessionFor d = none) :
    s.deliver d = (s.landNormally p d).recomputeWarn := by
  unfold State.deliver
  rw [hp, hsession]
  exact if_neg (by rw [hstale]; decide)

/-- A trigger that a session takes, of a sensor that no position holds or whose last sample it does not repeat. -/
theorem State.deliver_taught {s : State} {d : Delivery} {t : TeachSession} (hsession : s.sessionFor d = some t)
    (hstale : ∀ p, s.holder d.id = some p → stale (s.pos p) d = false) :
    s.deliver d = (s.teachTrigger t d).recomputeWarn := by
  unfold State.deliver
  rw [hsession]
  split
  · rfl
  · next p hp => exact if_neg (by rw [hstale p hp]; decide)

/-- A delivery is stale within 30 s of a sample with its sequence number (R41). -/
theorem stale_of_recent {x : Position} {sm : Sample} {d : Delivery} (hsample : x.sample = some sm)
    (hseq : sm.seq = d.seq) (hfresh : sm.tick.saturated = false) (hspan : (d.tick - sm.tick.tick).toNat < 300) :
    stale x d = true := by
  have hkept : keptSpan sm.tick d.tick < Config.staleTicks := by
    unfold keptSpan
    rw [hfresh]
    exact (Nat.min_le_left _ _).trans_lt hspan
  unfold stale
  rw [hsample]
  simp only [hseq, beq_self_eq_true, Bool.true_and, decide_eq_true_eq]
  exact hkept

/-- Settles O13. -/
theorem droppedDeliveryChangesNothing : Obligations.DroppedDeliveryChangesNothing := by
  intro s d p hids hlamp hp
  have hholder : s.holder d.id = some p := hids.holder_eq hp
  refine ⟨fun sm hsample hseq hfresh hspan => ?stale, fun hsession hst => ?outOfService⟩
  case stale => exact State.deliver_stale hholder (stale_of_recent hsample hseq hfresh hspan)
  case outOfService =>
    cases hstale : stale (s.pos p) d with
    | true => exact State.deliver_stale hholder hstale
    | false =>
      have hout : ¬ (s.pos p).inService := fun h => hst.elim h.ne.2.1 h.ne.2.2
      have hdropped : s.landNormally p d = s := State.landNormally_notInService hout d
      rw [State.deliver_landed hholder hstale (State.sessionFor_eq_none.2 hsession), hdropped]
      exact State.recomputeWarn_of_level hlamp.level

/-! ### The Foreign Sensor List (R44, R45) -/

theorem find?_of_pairwise {l : List ForeignEntry} {e : ForeignEntry} (hl : l.Pairwise fun e f => e.id ≠ f.id)
    (he : e ∈ l) : (l.find? fun f => f.id == e.id) = some e := by
  induction l with
  | nil => cases he
  | cons f l ih =>
    obtain ⟨hf, hl⟩ := List.pairwise_cons.1 hl
    obtain rfl | he := List.mem_cons.1 he
    · exact List.find?_cons_of_pos (beq_self_eq_true _)
    · rw [List.find?_cons_of_neg (by simpa using hf e he), ih hl he]

/-- Without the entry heard again, the list has room for it (R44). -/
theorem length_filter_lt {l : List ForeignEntry} {e : ForeignEntry} (he : e ∈ l) :
    (l.filter fun f => f.id != e.id).length < l.length :=
  List.length_filter_lt_length_iff_exists.2 ⟨e, he, by simp⟩

theorem foreignUpdate_known {l : List ForeignEntry} {d : Delivery} {e : ForeignEntry}
    (hl : l.Pairwise fun e f => e.id ≠ f.id) (hroom : l.length ≤ 8) (he : e ∈ l) (hid : e.id = d.id) :
    foreignUpdate l d = foreignEntry (some e) d :: l.filter fun f => f.id != d.id := by
  have hcapacity : Config.foreignCapacity = 8 := rfl
  have hshort := length_filter_lt he
  unfold foreignUpdate; dsimp only
  rw [← hid, find?_of_pairwise hl he, List.take_of_length_le (by omega)]

theorem foreignUpdate_new {l : List ForeignEntry} {d : Delivery} (hroom : l.length ≤ 8)
    (hnew : ∀ e ∈ l, e.id ≠ d.id) :
    foreignUpdate l d = foreignEntry none d :: (if l.length < 8 then l else l.dropLast) := by
  have hcapacity : Config.foreignCapacity = 8 := rfl
  have hfind : (l.find? fun e => e.id == d.id) = none :=
    List.find?_eq_none.2 fun e he => by simpa using hnew e he
  have hfilter : (l.filter fun e => e.id != d.id) = l :=
    List.filter_eq_self.2 fun e he => by simpa using hnew e he
  unfold foreignUpdate; dsimp only
  rw [hfind, hfilter, hcapacity]
  split
  · next hlt => rw [List.take_of_length_le (by omega)]
  · next hfull => rw [List.dropLast_eq_take, show l.length - 1 = 8 - 1 by omega]

/-- Settles O14: an ID already listed moves to the front; a new one takes the place of the last of eight. -/
theorem foreignDeliveryUpdatesList : Obligations.ForeignDeliveryUpdatesList := by
  intro s d hforeign hnowhere hsession
  rw [State.deliver_foreign (State.holder_none.2 hnowhere) (State.sessionFor_eq_none.2 hsession)]
  refine ⟨fun e he hid => ?known, fun hnew => ?new⟩
  case known =>
    have hhits : min 255 (e.hits + 1) = if e.hits = 255 then 255 else e.hits + 1 := by
      have hmost := (hforeign.hits e he).2
      split <;> omega
    rw [foreignUpdate_known hforeign.distinct hforeign.room he hid, foreignEntry, hhits]
    rfl
  case new => rw [foreignUpdate_new hforeign.room hnew]; rfl

/-! ### HOLD and UNHOLD (R52, R53) -/

theorem positionOperand_eq {r : Request} {p : Pos} (h : byteAt r 0 = some p.val) : positionOperand r = some p := by
  rw [positionOperand, h, Option.bind_some, posOfCode, dif_pos p.isLt]

section HoldServed

variable {r : Request} {s : State} {p : Pos}

theorem exec_hold_refused (hserved : s.serves r) (hp : byteAt r 0 = some p.val)
    (hst : (s.pos p).state = .unassigned ∨ (s.pos p).state = .detached) :
    exec (.hold r) s = .next (s.refuse r codeHold .invalid) := by
  obtain h | h := hst <;>
    simp only [exec, execHold, positionOperand_eq hp, State.request_served codeHold p _ hserved, h]

theorem exec_hold_held (hserved : s.serves r) (hp : byteAt r 0 = some p.val) (hst : (s.pos p).state = .held) :
    exec (.hold r) s = .next (s.reply r codeHold .done) := by
  simp only [exec, execHold, positionOperand_eq hp, State.request_served codeHold p _ hserved, hst]

theorem exec_hold_taken (hserved : s.serves r) (hp : byteAt r 0 = some p.val) (hst : (s.pos p).inService) :
    exec (.hold r) s = .next ((s.takeHold p).recomputeWarn.reply r codeHold .done) := by
  obtain h | h | h := hst <;>
    simp only [exec, execHold, positionOperand_eq hp, State.request_served codeHold p _ hserved, h]

theorem exec_unhold_other (hserved : s.serves r) (hp : byteAt r 0 = some p.val) (hst : (s.pos p).state ≠ .held) :
    exec (.unhold r) s = .next (s.reply r codeUnhold .done) := by
  simp only [exec, execUnhold, positionOperand_eq hp, State.request_served codeUnhold p _ hserved, if_neg hst]

theorem exec_unhold_held (hserved : s.serves r) (hp : byteAt r 0 = some p.val) (hst : (s.pos p).state = .held) :
    exec (.unhold r) s = .next ((s.restoreHold p).recomputeWarn.reply r codeUnhold .done) := by
  simp only [exec, execUnhold, positionOperand_eq hp, State.request_served codeUnhold p _ hserved, if_pos hst]

end HoldServed

theorem State.pos_takeHold (s : State) (p q : Pos) : (s.takeHold p).pos q =
    if q = p then s.heldRecord (s.pos p) else if q = partner p then (s.pos q).withoutImbalance else s.pos q := by
  rw [State.takeHold_eq_setPos, State.pos_dropPartnerImbalance]
  by_cases hq : q = partner p
  · subst hq
    rw [if_pos rfl, if_neg (partner_ne p), if_pos rfl, State.pos_setPos_ne _ _ (partner_ne p)]
  · rw [if_neg hq, if_neg hq, State.pos_setPos]

/-- A tick some ticks on is the present one exactly where they are none, modulo 2^24 (log 19). -/
theorem after_eq_self {now : Tick} {n : Nat} : after now n = now ↔ BitVec.ofNat 24 n = 0 := by
  unfold after
  constructor
  · intro h; bv_omega
  · intro h; rw [h]; exact BitVec.add_zero now

theorem transitions_zero_ite (b : Bool) :
    transitions 0 (if b = true then addKind 0 .missing else 0) = if b = true then [Kind.missing] else [] := by
  cases b <;> decide

/-- A hold of a MISSING position restored: the live set is empty while held, so MISSING, where it is enabled, is the
one transition (R53, R117). -/
theorem State.restoreHold_toMissing {s : State} {p : Pos} (hbefore : (s.pos p).beforeHold = some .missing)
    (hquiet : (s.pos p).live = 0) : s.restoreHold p =
      if hasKind s.activeProfile.enable .missing = true then
        (s.setPos p (s.restoredMissing (s.pos p))).latchAll .restore [(p, .missing)]
      else s.setPos p (s.restoredMissing (s.pos p)) := by
  have hlive : (s.restoredMissing (s.pos p)).live =
      if hasKind s.activeProfile.enable .missing = true then addKind 0 .missing else 0 := by
    unfold State.restoredMissing; dsimp only; rw [hquiet]
  rw [State.restoreHold_missing hbefore, hlive, hquiet, transitions_zero_ite]
  split
  · rfl
  · rfl

/-- Settles O38. -/
theorem holdThenUnhold : Obligations.HoldThenUnhold := by
  intro r s p hserved hp hlaw
  refine ⟨fun hst => ?refused, fun hst => exec_hold_held hserved hp hst, fun hst => ?held,
    fun hst => exec_unhold_other hserved hp hst, fun st n s1 hst hbefore hremaining hs1 => ?restored,
    fun hst hbefore s1 hs1 => ?missing⟩
  case refused =>
    rw [exec_hold_refused hserved hp hst, State.refuse_of_ne s r _ (by decide)]
    rfl
  case held =>
    refine ⟨s.takeHold p, exec_hold_taken hserved hp hst, s.takeHold_eq p, fun q hqp hqt => ?_, ?_, ?_⟩
    · rw [State.pos_takeHold, if_neg hqp, if_neg hqt]
    · rw [State.pos_takeHold, if_neg (partner_ne p), if_pos rfl]; rfl
    · rw [State.pos_takeHold, if_pos rfl]; rfl
  case restored =>
    have hnotMissing : st ≠ .missing := by
      rintro rfl
      have hnone := (hlaw.lawful p).remaining.1 (hremaining ▸ rfl)
      rw [hbefore] at hnone
      revert hnone; decide
    have hrecord : s.setPos p (s.restoredTo (s.pos p) st) = s1 := by
      rw [hs1, State.restoredTo, hremaining]; rfl
    have hatOnce : (s.pos p).remaining.map (after s.tick) = some s.tick ↔ BitVec.ofNat 24 n = 0 := by
      rw [hremaining, Option.map_some, Option.some.injEq, after_eq_self]
    rw [exec_unhold_held hserved hp hst, State.restoreHold_some hbefore hnotMissing, hrecord]
    exact ⟨fun hn => by rw [if_neg (hatOnce.not.2 hn)]; rfl, fun hn => by rw [if_pos (hatOnce.2 hn)]; rfl⟩
  case missing =>
    have hquiet : (s.pos p).live = 0 := (hlaw.lawful p).quiet (by rw [hst]; decide) (by rw [hst]; decide)
    have hrecord : s.setPos p (s.restoredMissing (s.pos p)) = s1 := by
      rw [hs1, State.restoredMissing, hquiet]; rfl
    rw [exec_unhold_held hserved hp hst, State.restoreHold_toMissing hbefore hquiet, hrecord]
    rfl

/-! ### WRITE POSITION (R153) -/

section WritePositionServed

variable {r : Request} {s : State} {p : Pos} {id : Option SensorId}

theorem positionWriteOperand_eq (hp : byteAt r 0 = some p.val)
    (hid : (byteAt r 1 = some 1 ∧ id = none) ∨ (byteAt r 1 = some 0 ∧ ∃ x, idAt r 2 = some x ∧ id = some x)) :
    positionWriteOperand r = some (p, id) := by
  unfold positionWriteOperand
  rw [positionOperand_eq hp]
  obtain ⟨hremoves, rfl⟩ | ⟨hassigns, x, hx, rfl⟩ := hid
  · rw [hremoves]; rfl
  · rw [hassigns, hx]; rfl

theorem exec_writePosition_served (hserved : s.servesHolder r) (hw : positionWriteOperand r = some (p, id)) :
    exec (.writePosition r) s = .next
      (if s.idRefused p id then s.refuse r codeWritePosition .invalid
      else if ((s.pos p).sensor != id) && inTruck p && s.grant.truckLock then s.refuse r codeWritePosition .locked
      else if (s.pos p).sensor != id then
        (((s.recordReset p id).mark (sectionOf (inTruck p))).refreshIdle.recomputeWarn).reply r codeWritePosition .done
      else s.refreshIdle.reply r codeWritePosition .done) := by
  simp only [exec, execWritePosition, hw]
  rw [State.edit_served codeWritePosition _ _ hserved]

end WritePositionServed

theorem validId_iff {x : SensorId} : validId x = true ↔ x ≠ 0x00000000#32 ∧ x ≠ 0xFFFFFFFF#32 := by
  rw [validId, Bool.and_eq_true, bne_iff_ne, bne_iff_ne]

/-- An ID is refused where it is no valid one, or its position does not exist, or another position holds it. -/
theorem State.idRefused_eq_true {s : State} {p : Pos} {id : Option SensorId} :
    s.idRefused p id = true ↔ ∃ x, id = some x ∧ (x = 0x00000000#32 ∨ x = 0xFFFFFFFF#32 ∨ s.posExists p = false ∨
      ∃ q, q ≠ p ∧ (s.pos q).sensor = some x) := by
  rw [← Bool.not_eq_false, State.idRefused_eq_false]
  push Not
  simp only [validId_iff]
  refine exists_congr fun x => and_congr_right fun _ => ?_
  constructor
  · intro h
    by_cases hzero : x = 0x00000000#32
    · exact .inl hzero
    · by_cases hones : x = 0xFFFFFFFF#32
      · exact .inr (.inl hones)
      · cases hexists : s.posExists p with
        | false => exact .inr (.inr (.inl rfl))
        | true => exact .inr (.inr (.inr (h ⟨hzero, hones⟩ hexists)))
  · rintro (h | h | h | h) ⟨hzero, hones⟩ hexists
    · exact absurd h hzero
    · exact absurd h hones
    · rw [h] at hexists; cases hexists
    · exact h

theorem foreignWithout_eq (l : List ForeignEntry) (id : Option SensorId) :
    foreignWithout l id = l.filter fun e => some e.id ≠ id :=
  List.filter_congr fun e _ => by cases h : some e.id != id <;> simpa using h

/-- What a record reset leaves at its position, with an ID or with none (R36, R84). -/
theorem loadedPosition_eq (p : Pos) (id : Option SensorId) (present : Bool) (now : Tick) :
    loadedPosition p id present now = { Position.empty with
      sensor := id
      state := if id = none then .unassigned
        else if inTruck p = true ∨ present = true then .waiting else .detached
      deadline := if id ≠ none ∧ (inTruck p = true ∨ present = true) then some (now + 6000#24) else none } := by
  cases id with
  | none => rfl
  | some x =>
    rw [loadedPosition_some]
    simp only [reduceCtorEq, if_false, ne_eq, not_false_eq_true, true_and]

/-- Settles O43. -/
theorem writePositionResult : Obligations.WritePositionResult := by
  intro r s p id hserved hp hid
  have hexec := exec_writePosition_served hserved (positionWriteOperand_eq hp hid)
  refine ⟨fun hrefused => ?invalid, fun hok => ?_⟩
  case invalid =>
    rw [hexec, if_pos (State.idRefused_eq_true.2 hrefused), State.refuse_of_ne s r _ (by decide)]
    rfl
  have haccepted : s.idRefused p id = false := State.idRefused_eq_false.2 fun x hx => by
    obtain ⟨hzero, hones, hexists, hother⟩ := hok x hx
    exact ⟨validId_iff.2 ⟨hzero, hones⟩, hexists, hother⟩
  rw [haccepted, if_neg nofun] at hexec
  refine ⟨fun hsame => ?same, fun hchanges htruck hlock => ?locked, fun hchanges hopen => ?reset⟩
  case same =>
    rw [hexec, hsame, bne_self_eq_false]
    rfl
  case locked =>
    rw [hexec, bne_iff_ne.2 hchanges, htruck, hlock]
    exact congrArg Host.Outcome.next (s.refuse_of_ne (code := codeWritePosition) r .locked (by decide))
  case reset =>
    have hunlocked : (true && inTruck p && s.grant.truckLock) = false := by
      obtain h | h := hopen <;> simp [h]
    rw [bne_iff_ne.2 hchanges, hunlocked, if_neg nofun, if_pos rfl] at hexec
    refine ⟨((s.recordReset p id).mark (sectionOf (inTruck p))).refreshIdle, ?_, ?_, ?_, fun q hqp hqt => ?_, ?_, ?_,
      hexec⟩
    · rw [State.refreshIdle_eq]; rfl
    · rw [State.refreshIdle_eq]; rfl
    · rw [State.refreshIdle_foreign]; exact foreignWithout_eq s.foreign id
    · rw [State.refreshIdle_pos, State.mark_pos, State.pos_recordReset, if_neg hqp, if_neg hqt]
    · rw [State.refreshIdle_pos, State.mark_pos, State.pos_recordReset, if_neg (partner_ne p), if_pos rfl]; rfl
    · rw [State.refreshIdle_pos, State.mark_pos, State.pos_recordReset, if_pos rfl, loadedPosition_eq]

/-! ### CYCLIC_REPORT (R55, R175) -/

theorem identPriority_frameIdent (priority : BitVec 3) (cls : BitVec 2) (code target sender : Byte) :
    identPriority (frameIdent priority cls code target sender) = priority := by
  refine BitVec.eq_of_getLsbD_eq fun i hi => ?_
  have hhigh : ¬ 26 + i < 26 := by omega
  simp only [identPriority, frameIdent, BitVec.getLsbD_extractLsb', BitVec.getLsbD_append, hi, decide_true,
    Bool.true_and]
  grind

/-- Cyclic reports join the queue of an ACTIVE port as far as there is room, and are dropped beyond it (R173). -/
theorem PortCtl.enqueue_cyclic {c : PortCtl} {f : TxFrame} (hf : f.cyclic = true) (hc : c.mode = .active) :
    c.enqueue f = { c with queue := c.queue ++ [f].take (16 - c.queue.length) } := by
  have hcapacity : Config.queueCapacity = 16 := rfl
  obtain ⟨mode, queue, errors, periodDue, nextAxle, overflow⟩ := c
  obtain rfl : mode = .active := hc
  simp only [PortCtl.enqueue, hcapacity, hf, if_true]
  split
  · next hroom => rw [List.take_of_length_le (by simp only [List.length_singleton]; omega)]
  · next hfull =>
    rw [show 16 - queue.length = 0 by omega, List.take_zero, List.append_nil]

theorem PortCtl.foldl_enqueue_cyclic {c : PortCtl} {frames : List TxFrame} (hf : ∀ f ∈ frames, f.cyclic = true)
    (hc : c.mode = .active) :
    frames.foldl PortCtl.enqueue c = { c with queue := c.queue ++ frames.take (16 - c.queue.length) } := by
  induction frames generalizing c with
  | nil => rw [List.foldl_nil, List.take_nil, List.append_nil]
  | cons f fs ih =>
    have hrest := fun c hc => ih (c := c) (fun g hg => hf g (List.mem_cons_of_mem f hg)) hc
    rw [List.foldl_cons, PortCtl.enqueue_cyclic (hf f List.mem_cons_self) hc]
    refine Eq.trans (hrest _ ?_) ?_
    · exact hc
    by_cases hroom : c.queue.length < 16
    · obtain ⟨n, hn⟩ : ∃ n, 16 - c.queue.length = n + 1 := ⟨15 - c.queue.length, by omega⟩
      have hleft : 16 - (c.queue.length + 1) = n := by omega
      simp only [hn, List.take_succ_cons, List.take_nil, List.length_append, List.length_singleton, hleft,
        List.append_assoc, List.singleton_append]
    · have hnone : 16 - c.queue.length = 0 := by omega
      simp only [hnone, List.take_zero, List.append_nil]

/-- The frame of a position's cyclic report on a port (R171, R182). -/
def State.cyclicFrame (s : State) (port : Port) (p : Pos) : TxFrame :=
  { ident := frameIdent 5 2 0x60#8 0xFF#8 s.address
    data := reportBytes p (s.pos p) ((s.pos p).latched.get port)
    sending := false }

theorem State.cyclicFrame_cyclic (s : State) (port : Port) (p : Pos) : (s.cyclicFrame port p).cyclic = true := by
  rw [TxFrame.cyclic, State.cyclicFrame, identPriority_frameIdent]; rfl

/-- The cyclic reports of an axle as frames, in the port's visiting order. -/
def State.axleFrames (s : State) (port : Port) (a : AxleNo) : List TxFrame :=
  (s.visited a (s.settings.order.get port) 0 4).map (s.cyclicFrame port)

theorem State.length_axleFrames_le (s : State) (port : Port) (a : AxleNo) : (s.axleFrames port a).length ≤ 4 := by
  rw [State.axleFrames, List.length_map, State.visited]
  exact (List.length_filter_le _ _).trans (by simp)

theorem State.axleFrames_cyclic (s : State) (port : Port) (a : AxleNo) :
    ∀ f ∈ s.axleFrames port a, f.cyclic = true := fun f hf => by
  obtain ⟨p, -, rfl⟩ := List.mem_map.1 hf
  exact s.cyclicFrame_cyclic port p

/-- The reports of an axle are raised on their port one after another. -/
theorem State.reportAxle_eq_setPort (s : State) (port : Port) (a : AxleNo) : s.reportAxle port a =
    s.setPort port ((s.axleFrames port a).foldl PortCtl.enqueue (s.port port)) := by
  unfold State.reportAxle State.axleFrames
  generalize s.visited a (s.settings.order.get port) 0 4 = ps
  induction ps generalizing s with
  | nil => simp only [List.map_nil, List.foldl_nil, State.setPort, State.port, PerPort.set_get]
  | cons p ps ih =>
    have hone : s.report port 5 codePositionReport (s.positionReport p port) =
        s.setPort port ((s.port port).enqueue (s.cyclicFrame port p)) := rfl
    have hframes : ∀ c, ps.map ((s.setPort port c).cyclicFrame port) = ps.map (s.cyclicFrame port) := fun _ => rfl
    rw [List.foldl_cons, hone, ih, hframes, State.setPort_setPort, State.port_setPort_same, List.map_cons,
      List.foldl_cons]

theorem State.axlePresent_iff (s : State) (a : AxleNo) : s.axlePresent a = true ↔
    (s.axle a).kind ≠ .absent ∧ (a.val < 4 ∨ s.trailerPresent = true) := by
  rw [State.axlePresent, Bool.and_eq_true, Bool.or_eq_true, bne_iff_ne, truckAxle, decide_eq_true_eq]

theorem axlePlus_succ (a : AxleNo) (k : Nat) : axlePlus (axlePlus a k) 1 = axlePlus a (k + 1) :=
  Fin.ext (by simp only [axlePlus]; omega)

theorem axlePlus_reaches (start a : AxleNo) : ∃ k, k < 8 ∧ axlePlus start k = a := by
  revert start a; decide

theorem State.nextPresentAxle_eq_none {s : State} {start : AxleNo} :
    s.nextPresentAxle start = none ↔ ∀ a, s.axlePresent a = false := by
  rw [State.nextPresentAxle, List.find?_eq_none]
  constructor
  · intro h a
    obtain ⟨k, hk, rfl⟩ := axlePlus_reaches start a
    exact Bool.not_eq_true _ ▸ h _ (List.mem_map_of_mem (List.mem_range.2 hk))
  · intro h a _
    rw [h a]; decide

/-- The next present axle is the first one from the next-axle number up and round. -/
theorem State.nextPresentAxle_eq_some {s : State} {start : AxleNo} {k : Nat} (hk : k < 8)
    (hpresent : s.axlePresent (axlePlus start k) = true)
    (hbefore : ∀ j, j < k → s.axlePresent (axlePlus start j) = false) :
    s.nextPresentAxle start = some (axlePlus start k) := by
  have hfirst : ((List.range 8).find? fun j => s.axlePresent (axlePlus start j)) = some k :=
    List.find?_range_eq_some.2 ⟨hpresent, List.mem_range.2 hk, fun j hj => by rw [hbefore j hj]; rfl⟩
  rw [State.nextPresentAxle, List.find?_map]
  exact congrArg (Option.map (axlePlus start)) hfirst

section CyclicDue

variable {s : State} {port : Port}

/-- The port with its period timer set again (R175). -/
def State.timerSet (s : State) (port : Port) : PortCtl :=
  { s.port port with periodDue := some (after s.tick (s.settings.reportPeriod.get port)) }

theorem exec_cyclicReport_due (hrunning : s.phase = .running) (hactive : (s.port port).mode = .active)
    (hdue : (s.port port).periodDue = some s.tick) : exec (.cyclicReport port) s = .next
      (match s.nextPresentAxle (s.port port).nextAxle with
      | none => s.setPort port (s.timerSet port)
      | some a => ((s.setPort port (s.timerSet port)).reportAxle port a).setPort port
        { ((s.setPort port (s.timerSet port)).reportAxle port a).port port with nextAxle := axlePlus a 1 }) :=
  congrArg Host.Outcome.next (if_pos ⟨hrunning, hactive, hdue⟩)

theorem exec_cyclicReport_some (hrunning : s.phase = .running) (hactive : (s.port port).mode = .active)
    (hdue : (s.port port).periodDue = some s.tick) {a : AxleNo}
    (hsome : s.nextPresentAxle (s.port port).nextAxle = some a) :
    exec (.cyclicReport port) s = .next (s.setPort port { s.timerSet port with
      nextAxle := axlePlus a 1
      queue := (s.port port).queue ++ (s.axleFrames port a).take (16 - (s.port port).queue.length) }) := by
  have hframes : (s.setPort port (s.timerSet port)).axleFrames port a = s.axleFrames port a := rfl
  have hactive' : (s.timerSet port).mode = .active := hactive
  rw [exec_cyclicReport_due hrunning hactive hdue, hsome]; dsimp only
  rw [State.reportAxle_eq_setPort, State.setPort_setPort, State.port_setPort_same, State.port_setPort_same, hframes,
    PortCtl.foldl_enqueue_cyclic (s.axleFrames_cyclic port a) hactive', State.setPort_setPort]
  rfl

end CyclicDue

theorem other_ne (p : Port) : p.other ≠ p := by cases p <;> decide

/-- Settles O30. -/
theorem cyclicReportTakesNextPresentAxle : Obligations.CyclicReportTakesNextPresentAxle := by
  refine ⟨State.axlePresent_iff, fun port s hrunning hactive hdue => ?_⟩
  cases hnext : s.nextPresentAxle (s.port port).nextAxle with
  | none =>
    have habsent := State.nextPresentAxle_eq_none.1 hnext
    refine ⟨_, by rw [exec_cyclicReport_due hrunning hactive hdue, hnext], rfl,
      State.port_setPort_ne s _ (other_ne port), ?_⟩
    rw [State.port_setPort_same]
    refine ⟨rfl, hactive, rfl, rfl, fun _ => ⟨rfl, rfl⟩, fun k hk hpresent => ?_⟩
    rw [habsent] at hpresent
    cases hpresent
  | some a =>
    refine ⟨_, exec_cyclicReport_some hrunning hactive hdue hnext, rfl,
      State.port_setPort_ne s _ (other_ne port), ?_⟩
    rw [State.port_setPort_same]
    refine ⟨rfl, hactive, rfl, rfl, fun habsent => ?_, fun k hk hpresent hbefore => ?_⟩
    · rw [State.nextPresentAxle_eq_none.2 habsent] at hnext
      cases hnext
    · obtain rfl : axlePlus (s.port port).nextAxle k = a :=
        Option.some.inj ((State.nextPresentAxle_eq_some hk hpresent hbefore).symm.trans hnext)
      refine ⟨axlePlus_succ _ k, fun frames hframes => ?_⟩
      obtain rfl : frames = s.axleFrames port _ := hframes
      have hfew := s.length_axleFrames_le port (axlePlus (s.port port).nextAxle k)
      rw [PortCtl.foldl_enqueue_cyclic (s.axleFrames_cyclic port _) hactive]
      exact ⟨rfl, fun hroom => by rw [List.take_of_length_le (by omega)]⟩

/-! ### Positions that leave the walk (R140, R141, R142) -/

theorem State.endTeach_some {s : State} {t : TeachSession} (h : s.teach = some t) (o : TeachOutcome) :
    s.endTeach o = { s.notice codeTeachEnd [o.code, byteOf t.count] with
      teach := none, grant := { s.grant with idleTimer := some s.tick } } := by
  unfold State.endTeach; rw [h]

/-- A notice depends on the ports and the address alone. -/
theorem State.notice_ports_congr {s u : State} (hports : u.ports = s.ports) (hstraps : u.straps = s.straps)
    (code : Byte) (data : List Byte) : (u.notice code data).ports = (s.notice code data).ports := by
  have hport : ∀ k, u.port k = s.port k := fun k => congrArg (PerPort.get · k) hports
  refine ports_ext fun k => ?_
  rw [State.port_notice, State.port_notice, hport, State.address_of_straps hstraps]

/-- A session with positions removed from its queue and, where `also` says so, from its taught set: a new head has a
fresh step deadline (R140, R141). -/
def TeachSession.without (t : TeachSession) (gone : Pos → Bool) (also : Bool) (now : Tick) : TeachSession :=
  { t with
    queue := t.queue.filter fun p => !gone p
    taught := if also then t.taught.filter (fun p => !gone p) else t.taught
    stepDeadline := if (t.queue.filter fun p => !gone p).head? = t.queue.head? then t.stepDeadline
      else after now Config.teachStepTicks }

section RemoveFromTeach

variable {s : State} {t : TeachSession} {gone : Pos → Bool} (also : Bool) (o : TeachOutcome)

theorem State.removeFromTeach_none (h : s.teach = none) (gone : Pos → Bool) :
    s.removeFromTeach gone also o = s := by
  unfold State.removeFromTeach; rw [h]

theorem State.removeFromTeach_kept (h : s.teach = some t) (hq : (t.queue.filter fun p => !gone p) ≠ []) :
    s.removeFromTeach gone also o = { s with teach := some (t.without gone also s.tick) } := by
  unfold State.removeFromTeach; rw [h]
  exact if_neg (by rw [List.isEmpty_iff]; exact hq)

theorem State.removeFromTeach_emptied (h : s.teach = some t) (hq : (t.queue.filter fun p => !gone p) = []) :
    s.removeFromTeach gone also o = { s.notice codeTeachEnd [o.code, byteOf t.count] with
      teach := none, grant := { s.grant with idleTimer := some s.tick } } := by
  unfold State.removeFromTeach; rw [h]
  refine (if_pos (by rw [List.isEmpty_iff]; exact hq)).trans ?_
  exact State.endTeach_some (t := t.without gone also s.tick) rfl o

end RemoveFromTeach

/-! ### The trailer follows its input (R48, R49, R50, R140) -/

/-- The trailer section as the debounced level leaves it, before the WARN level is recomputed. -/
def State.trailerFollows (s : State) : State :=
  if s.trl then ({ s with trlTimer := none } : State).recouple
  else ({ s with trlTimer := none } : State).decouple.removeFromTeach (fun p => !inTruck p) false .detached

theorem exec_trlDebounceExpiry (s : State) : exec .trlDebounceExpiry s = .next
    (if ranOut s.trlTimer s.tick Config.trlDebounceTicks && s.trl != s.trailerPresent then
      s.trailerFollows.recomputeWarn else s) := rfl

theorem State.trailerFollows_eq (s : State) : s.trailerFollows =
    { s with
      trlTimer := none, trailerPresent := s.trl, positions := s.trailerFollows.positions
      teach := s.trailerFollows.teach, ports := s.trailerFollows.ports
      grant := { s.grant with idleTimer := s.trailerFollows.grant.idleTimer } } := by
  unfold State.trailerFollows
  cases s.trl with
  | true => simp only [if_true]; rw [State.recouple_eq]
  | false =>
    simp only [Bool.false_eq_true, if_false]
    rw [State.removeFromTeach_eq, State.decouple_eq]

theorem State.trailerFollows_coupled {s : State} (h : s.trl = true) :
    s.trailerFollows = ({ s with trlTimer := none } : State).recouple := by
  rw [State.trailerFollows, if_pos h]

theorem State.pos_trailerFollows_coupled {s : State} (h : s.trl = true) (p : Pos) : s.trailerFollows.pos p =
    if (s.pos p).state = .detached then { s.pos p with state := .waiting, deadline := some (s.tick + 6000#24) }
    else s.pos p := by
  rw [State.trailerFollows_coupled h, State.pos_recouple]
  rfl

theorem State.trailerFollows_decoupled {s : State} (h : s.trl = false) : s.trailerFollows =
    ({ s with trlTimer := none } : State).decouple.removeFromTeach (fun p => !inTruck p) false .detached := by
  rw [State.trailerFollows, h]
  rfl

theorem State.pos_trailerFollows_decoupled {s : State} (h : s.trl = false) (p : Pos) :
    s.trailerFollows.pos p = if inTruck p then s.pos p else detach (s.pos p) := by
  have hpos := State.holdings_positions (State.holdings_removeFromTeach
    ({ s with trlTimer := none } : State).decouple (fun p => !inTruck p) false .detached)
  rw [State.trailerFollows_decoupled h, State.pos_congr hpos, State.pos_decouple]
  rfl

theorem filter_not_not (l : List Pos) (f : Pos → Bool) : (l.filter fun p => !(!f p)) = l.filter f :=
  List.filter_congr fun p _ => Bool.not_not (f p)

section Decoupled

variable {s : State} (h : s.trl = false)
include h

theorem State.trailerFollows_noSession (hteach : s.teach = none) : s.trailerFollows.teach = none ∧
    s.trailerFollows.grant = s.grant ∧ s.trailerFollows.ports = s.ports := by
  rw [State.trailerFollows_decoupled h, State.removeFromTeach_none _ _ (by rw [State.decouple_eq]; exact hteach),
    State.decouple_eq]
  exact ⟨hteach, rfl, rfl⟩

theorem State.trailerFollows_sessionStays {t : TeachSession} (hteach : s.teach = some t)
    (hq : t.queue.filter inTruck ≠ []) : s.trailerFollows.grant = s.grant ∧ s.trailerFollows.ports = s.ports ∧
      s.trailerFollows.teach = some { t with
        queue := t.queue.filter inTruck
        stepDeadline := if (t.queue.filter inTruck).head? = t.queue.head? then t.stepDeadline
          else s.tick + 1200#24 } := by
  rw [State.trailerFollows_decoupled h, State.removeFromTeach_kept (t := t) _ _ (by rw [State.decouple_eq]; exact hteach)
    (by rw [filter_not_not]; exact hq), State.decouple_eq]
  refine ⟨rfl, rfl, ?_⟩
  simp only [TeachSession.without, filter_not_not]
  rfl

theorem State.trailerFollows_sessionEnds {t : TeachSession} (hteach : s.teach = some t)
    (hq : t.queue.filter inTruck = []) : s.trailerFollows.teach = none ∧
      s.trailerFollows.grant = { s.grant with idleTimer := some s.tick } ∧
      s.trailerFollows.ports = (s.notice 0x76#8 [3, byteOf t.count]).ports := by
  have hframe := ({ s with trlTimer := none } : State).decouple_eq
  rw [State.trailerFollows_decoupled h, State.removeFromTeach_emptied (t := t) _ _ (by rw [hframe]; exact hteach)
    (by rw [filter_not_not]; exact hq)]
  refine ⟨rfl, ?_, State.notice_ports_congr ?_ ?_ _ _⟩
  · dsimp only; rw [hframe]
  · rw [hframe]
  · rw [hframe]

end Decoupled

/-- Settles O25. -/
theorem trlExpiryCouplesOrDecouples : Obligations.TrlExpiryCouplesOrDecouples := by
  have hticks : Config.trlDebounceTicks = 20 := rfl
  refine ⟨fun s hnot => ?notDue, fun s start htimer hspan hdiffers => ?due⟩
  case notDue =>
    have hidle : (ranOut s.trlTimer s.tick Config.trlDebounceTicks && s.trl != s.trailerPresent) = false := by
      obtain htimer | ⟨start, htimer, hspan⟩ | hsame := hnot
      · rw [htimer]; rfl
      · rw [htimer, ranOut_some, hticks, decide_eq_false (by omega)]; rfl
      · rw [hsame, bne_self_eq_false, Bool.and_false]
    rw [exec_trlDebounceExpiry, hidle]
    rfl
  case due =>
    have hdue : (ranOut s.trlTimer s.tick Config.trlDebounceTicks && s.trl != s.trailerPresent) = true := by
      rw [htimer, ranOut_some, hticks, decide_eq_true hspan, bne_iff_ne.2 hdiffers]; rfl
    refine ⟨s.trailerFollows.recomputeWarn, by rw [exec_trlDebounceExpiry, if_pos hdue], ?_⟩
    rw [State.recomputeWarn_trailerPresent, State.recomputeWarn_trlTimer, State.recomputeWarn_foreign,
      State.recomputeWarn_axles, State.recomputeWarn_merge, State.recomputeWarn_context, State.recomputeWarn_stack,
      State.recomputeWarn_settings, State.recomputeWarn_profiles, State.recomputeWarn_store,
      State.recomputeWarn_flags, State.recomputeWarn_lines, State.recomputeWarn_tick, State.recomputeWarn_phase,
      State.recomputeWarn_trl, State.recomputeWarn_teach, State.recomputeWarn_grant, State.recomputeWarn_ports]
    simp only [State.recomputeWarn_pos]
    have hframe := s.trailerFollows_eq
    refine ⟨?_, ?_, ?_, ?_, ?_, ?_, ?_, ?_, ?_, ?_, ?_, ?_, ?_, ?_, ?_, fun p htruck hattached => ?truck,
      fun hcoupled => ?coupled, fun hdecoupled => ?decoupled⟩
    case truck =>
      cases h : s.trl with
      | true => rw [State.pos_trailerFollows_coupled h, if_neg hattached]
      | false => rw [State.pos_trailerFollows_decoupled h, if_pos htruck]
    case coupled =>
      refine ⟨?_, ?_, ?_, fun p hp => ?_, fun p hp => ?_⟩
      · rw [State.trailerFollows_coupled hcoupled, State.recouple_eq]
      · rw [State.trailerFollows_coupled hcoupled, State.recouple_eq]
      · rw [State.trailerFollows_coupled hcoupled, State.recouple_eq]
      · rw [State.pos_trailerFollows_coupled hcoupled, if_pos hp]
      · rw [State.pos_trailerFollows_coupled hcoupled, if_neg hp]
    case decoupled =>
      refine ⟨fun p htrailer hsensor => ?_, fun p htrailer hsensor => ?_, State.trailerFollows_noSession hdecoupled,
        fun session => State.trailerFollows_sessionStays hdecoupled,
        fun session => State.trailerFollows_sessionEnds hdecoupled⟩
      · rw [State.pos_trailerFollows_decoupled hdecoupled, htrailer, detach,
          if_pos (Option.isSome_iff_ne_none.2 hsensor)]
        rfl
      · rw [State.pos_trailerFollows_decoupled hdecoupled, htrailer, detach, hsensor]
        rfl
    all_goals rw [hframe]

/-! ### The reads of positions, axles, profiles, settings and stack (R55, R56, R97, R110, R168, R169) -/

/-- A mask meets the kinds that satisfy a test exactly where one of those is in it. -/
theorem any_hasKind {m : KindMask} {f : Kind → Bool} :
    (allKinds.any fun k => hasKind m k && f k) = true ↔ m &&& maskOf f ≠ 0 := by
  have hand : ∀ k, hasKind (m &&& maskOf f) k = (hasKind m k && f k) := fun k => by
    rw [← hasKind_maskOf f k]; exact BitVec.getLsbD_and
  rw [List.any_eq_true]
  constructor
  · rintro ⟨k, -, hk⟩ hzero
    rw [← hand, hzero, hasKind_zero] at hk
    cases hk
  · intro hne
    by_contra hnone
    refine hne (kindMask_ext fun k => ?_)
    rw [hasKind_zero, hand]
    exact Bool.not_eq_true _ ▸ fun hk => hnone ⟨k, mem_allKinds k, hk⟩

theorem maskOf_critical : maskOf (fun k => k.severity == .critical) = 0x02A#10 := by decide
theorem maskOf_warning : maskOf (fun k => k.severity == .warning) = 0x1D5#10 := by decide

theorem any_info {m : KindMask} (hcritical : ¬ m &&& 0x02A#10 ≠ 0) (hwarning : ¬ m &&& 0x1D5#10 ≠ 0) :
    (allKinds.any fun k => hasKind m k && k.severity == .info) = true ↔ m ≠ 0 := by
  rw [any_hasKind]
  have hall : m = m &&& (maskOf (fun k => k.severity == .info) ||| (0x02A#10 ||| 0x1D5#10)) := by
    have hfull : maskOf (fun k => k.severity == .info) ||| (0x02A#10 ||| 0x1D5#10) = BitVec.allOnes 10 := by decide
    rw [hfull, BitVec.and_allOnes]
  have hinfo : m = m &&& maskOf (fun k => k.severity == .info) := by
    rw [not_not] at hcritical hwarning
    conv_lhs => rw [hall, BitVec.and_or_distrib_left, BitVec.and_or_distrib_left, hcritical, hwarning]
    exact BitVec.or_zero.trans rfl
  rw [← hinfo]

/-- The severity code of a live set, by the masks of the CRITICAL and of the WARNING kinds (R112, R182). -/
theorem code_highestSeverity (m : KindMask) : (highestSeverity m).code =
    if m &&& 0x02A#10 ≠ 0 then 3 else if m &&& 0x1D5#10 ≠ 0 then 2 else if m ≠ 0 then 1 else 0 := by
  have hcritical : (allKinds.any fun k => hasKind m k && k.severity == .critical) = true ↔ m &&& 0x02A#10 ≠ 0 := by
    rw [any_hasKind, maskOf_critical]
  have hwarning : (allKinds.any fun k => hasKind m k && k.severity == .warning) = true ↔ m &&& 0x1D5#10 ≠ 0 := by
    rw [any_hasKind, maskOf_warning]
  unfold highestSeverity
  by_cases hc : m &&& 0x02A#10 ≠ 0
  · rw [if_pos (hcritical.2 hc), if_pos hc]; rfl
  · rw [if_neg (hcritical.not.2 hc), if_neg hc]
    by_cases hw : m &&& 0x1D5#10 ≠ 0
    · rw [if_pos (hwarning.2 hw), if_pos hw]; rfl
    · rw [if_neg (hwarning.not.2 hw), if_neg hw]
      by_cases hany : m ≠ 0
      · rw [if_pos ((any_info hc hw).2 hany), if_pos hany]; rfl
      · rw [if_neg ((any_info hc hw).not.2 hany), if_neg hany]; rfl

theorem reportBytes_eq (p : Pos) (x : Position) (latched : KindMask) : reportBytes p x latched =
    [byteOf p.val, byteOf (16 * x.state.code + (if x.live &&& 0x02A#10 ≠ 0 then 3
        else if x.live &&& 0x1D5#10 ≠ 0 then 2 else if x.live ≠ 0 then 1 else 0))] ++ optBe16 x.pc ++
      [optTemp (x.sample.bind (·.content.temperature))] ++ be24 ((x.live ++ latched).setWidth 24) := by
  rw [reportBytes, code_highestSeverity]
  rfl

theorem sampleBytes_eq (x : Position) : sampleBytes x = optId x.sensor ++ (match x.sample with
    | none => [0xC0, 0, 0, 0]
    | some sm =>
      [byteOf (64 * sm.content.kind.code + (if sm.content.motion = true then 1 else 0) +
          (if sm.content.batteryLow = true then 2 else 0) + (if sm.content.sensorFault = true then 4 else 0)),
        byteOf (sm.seq.toNat + (if sm.heard.conflict = true then 16 else 0) + 32 * sm.heard.bestLine.val),
        byteOf (16 * sm.heard.lineMask.toNat + (sm.heard.copyCount - 1)), sm.heard.bestRssi]) := by
  unfold sampleBytes
  cases x.sample with
  | none => rfl
  | some sm => dsimp only; rw [mul_bitOf, mul_bitOf, mul_bitOf, bitOf_eq_ite]

theorem figureBytes_eq (x : Position) (now : Tick) : figureBytes x now =
    optBe16 x.leakRate ++ [optTemp x.lastTemp] ++ (match x.sample with
      | none => [0xFF, 0xFF, 0xFF, 0xFF, 0]
      | some sm => optBe16 sm.content.pressure ++ be16 (keptSpan sm.tick now / 10 |> min 65534) ++
          [sm.heard.frameSet.setWidth 8]) := by
  unfold figureBytes
  cases x.sample with
  | none => simp only [List.append_assoc]; rfl
  | some sm => simp only [List.append_assoc]; rfl

theorem slotExists_iff (k : AxleKind) (p : Pos) : slotExists k (slotOf p) = true ↔
    k = .twin ∨ (k = .single ∧ (p.val % 4 = 0 ∨ p.val % 4 = 3)) := by
  cases k with
  | absent => exact ⟨nofun, fun h => by simp at h⟩
  | single => simp [slotExists, slotOf]
  | twin => simp [slotExists]

section ReadServed

variable {r : Request} {s : State} (hserved : s.serves r)
include hserved

theorem exec_readPosition_served {p : Pos} (hp : byteAt r 0 = some p.val) : exec (.readPosition r) s =
    .next (s.answer r codeReadPosition [s.positionReport p r.port, sampleBytes (s.pos p),
      captureBytes ((s.pos p).capture.get r.port), figureBytes (s.pos p) s.tick]) := by
  simp only [exec, execReadPosition, positionOperand_eq hp]
  rw [State.request_served codeReadPosition _ _ hserved]

theorem exec_readAxle_served {q : AxleRead} (hq : axleReadOperand r = some q) {ps : List Pos}
    (hps : ps = s.visited q.axle (q.order.getD (s.settings.order.get r.port)) q.start q.count) :
    exec (.readAxle r) s = .next (s.answer r codeReadAxle
      (([0, byteOf q.axle.val, byteOf (s.axle q.axle).kind.code] ++ be16 (s.axle q.axle).unladen ++
          be16 (s.axle q.axle).laden ++ [byteOf ((if s.lifted q.axle = true then 128 else 0) + ps.length)]) ::
        ps.map fun p => s.positionReport p r.port)) := by
  subst hps
  simp only [exec, execReadAxle, hq]
  rw [State.request_served codeReadAxle _ _ hserved, mul_bitOf]
  rfl

theorem exec_readProfile_served {i : ProfileNo} (hi : byteAt r 0 = some i.val) : exec (.readProfile r) s =
    .next (s.answer r codeReadProfile
      [ [0, byteOf i.val] ++ be16 (s.profile i).enable.toNat ++ be16 (s.profile i).uw ++ be16 (s.profile i).uc,
        be16 (s.profile i).ow ++ [byteOf (s.profile i).hyst, byteOf ((s.profile i).tw + 50).toNat,
          byteOf ((s.profile i).tc + 50).toNat, byteOf (s.profile i).th] ++ be16 (s.profile i).ib,
        [byteOf (s.profile i).lk] ]) := by
  have hoperand : profileOperand r = some i := by
    rw [profileOperand, hi, Option.bind_some, profileOfCode, dif_pos i.isLt]
  simp only [exec, execReadProfile, hoperand]
  rw [State.request_served codeReadProfile _ _ hserved]
  rfl

end ReadServed

/-- The operands of READ AXLE: axle, start slot, order and count (R56). -/
theorem axleReadOperand_eq {r : Request} {a : AxleNo} {start : Slot} {orderCode n : Nat}
    {order : Option VisitOrder} (ha : byteAt r 0 = some a.val) (hstart : byteAt r 1 = some start.val)
    (hcode : byteAt r 2 = some orderCode) (horder : orderOperand orderCode = some order)
    (hn : byteAt r 3 = some n) (hmin : 1 ≤ n) (hmax : n ≤ 4) :
    axleReadOperand r = some { axle := a, start := start, order := order, count := n } := by
  have haxle : (byteAt r 0).bind axleOfCode = some a := by
    rw [ha, Option.bind_some, axleOfCode, dif_pos a.isLt]
  have hslot : (byteAt r 1).bind fourOfCode = some start := by
    rw [hstart, Option.bind_some, fourOfCode, dif_pos start.isLt]
  have hcount : (byteAt r 3).bind (inRange 1 4) = some n := by
    rw [hn, Option.bind_some, inRange, if_pos ⟨hmin, hmax⟩]
  unfold axleReadOperand
  rw [haxle, hslot, hcode, hcount, Option.bind_some, horder]

theorem range_eq_take {n : Nat} (h : n ≤ 4) : List.range n = [0, 1, 2, 3].take n := by
  revert n; decide

/-- Settles O35. -/
theorem tableReadsAnswer : Obligations.TableReadsAnswer := by
  intro r s hserved
  refine ⟨fun p hp => ?position, reportBytes_eq, fun start i => ?linear, ?twin, fun p => slotExists_iff _ p,
    fun a start orderCode n order ps ha hstart hcode hn hmin hmax horder hps => ?axle,
    fun i hi => exec_readProfile_served hserved hi, ?settings, ?stack⟩
  case position => rw [exec_readPosition_served hserved hp, sampleBytes_eq, figureBytes_eq]; rfl
  case linear => rfl
  case twin => decide
  case axle =>
    have hvisited : ps = s.visited a order start n := by
      rw [hps, State.visited, range_eq_take hmax]
    have hread : ∀ named : Option VisitOrder, orderOperand orderCode = some named →
        named.getD (s.settings.order.get r.port) = order → exec (.readAxle r) s = .next (s.answer r codeReadAxle
          (([0, byteOf a.val, byteOf (s.axle a).kind.code] ++ be16 (s.axle a).unladen ++ be16 (s.axle a).laden ++
              [byteOf ((if s.lifted a = true then 128 else 0) + ps.length)]) ::
            ps.map fun p => s.positionReport p r.port)) := fun named hnamed hgiven =>
      exec_readAxle_served hserved (axleReadOperand_eq ha hstart hcode hnamed hn hmin hmax)
        (hvisited.trans (by rw [hgiven]))
    obtain ⟨rfl, rfl⟩ | ⟨rfl, rfl⟩ | ⟨rfl, rfl⟩ := horder
    · exact hread (some .linear) rfl rfl
    · exact hread (some .twin) rfl rfl
    · exact hread none rfl rfl
  case settings => exact congrArg Host.Outcome.next (State.request_served codeReadSettings () _ hserved)
  case stack =>
    have hbody : byteOf (bitOf (s.bodyState == .raised)) = if s.bodyState = .raised then 1 else 0 := by
      rw [byteOf_bitOf]; simp only [beq_iff_eq]
    rw [← hbody]
    exact congrArg Host.Outcome.next (State.request_served codeReadStack () _ hserved)

/-! ### An accepted sample (R42, R43, R64 to R66, R69, R70, R74, R80 to R83, R176) -/

/-- The record of a position with an accepted sample in place: interval, deadline and figures (R42, R74, R80). -/
def State.acceptedRecord (s : State) (p : Pos) (d : Delivery) : Position :=
  s.withFigures d (supervise (s.pos p) d (landSample d (s.pos p)))

section AcceptedRecord

variable (s : State) (p : Pos) (d : Delivery)

/-- The figures apart, the record is the position's with the sample, the temperature, the interval and the deadline. -/
theorem State.acceptedRecord_eq : s.acceptedRecord p d = { s.pos p with
    state := .active
    sample := some { content := d.content, seq := d.seq, heard := d.heard, tick := { tick := d.tick, saturated := false } }
    lastTemp := (s.acceptedRecord p d).lastTemp
    intervalMoving := (s.acceptedRecord p d).intervalMoving
    intervalStationary := (s.acceptedRecord p d).intervalStationary
    deadline := (s.acceptedRecord p d).deadline
    live := (s.pos p).live &&& ~~~ kindMask .missing
    pc := (s.acceptedRecord p d).pc, leakHistory := (s.acceptedRecord p d).leakHistory
    leakRate := (s.acceptedRecord p d).leakRate } := by
  rw [State.acceptedRecord, State.withFigures_eq]
  rfl

theorem State.lastTemp_acceptedRecord : (s.acceptedRecord p d).lastTemp =
    if d.content.temperature = none then (s.pos p).lastTemp else d.content.temperature := by
  have hlanded : (s.acceptedRecord p d).lastTemp = d.content.temperature.orElse fun _ => (s.pos p).lastTemp := by
    rw [State.acceptedRecord, State.withFigures_eq]; rfl
  rw [hlanded]
  cases d.content.temperature <;> rfl

/-- The interval captured is judged by the sample before (R81). -/
theorem capturedInterval_eq (x : Position) : capturedInterval x d = (match x.sample with
    | some sm => if x.state = .active ∧ sm.content.motion = d.content.motion then
        some (max 50 (min 6000 (keptSpan sm.tick d.tick))) else none
    | none => none) := by
  unfold capturedInterval
  cases x.sample <;> rfl

theorem State.intervals_acceptedRecord :
    (s.acceptedRecord p d).intervalMoving =
      (if d.content.motion = true ∧ capturedInterval (s.pos p) d ≠ none then capturedInterval (s.pos p) d
        else (s.pos p).intervalMoving) ∧
    (s.acceptedRecord p d).intervalStationary =
      (if d.content.motion = false ∧ capturedInterval (s.pos p) d ≠ none then capturedInterval (s.pos p) d
        else (s.pos p).intervalStationary) := by
  have hsupervised : (s.acceptedRecord p d).intervalMoving = (if d.content.motion then
        (capturedInterval (s.pos p) d).orElse (fun _ => (s.pos p).intervalMoving) else (s.pos p).intervalMoving) ∧
      (s.acceptedRecord p d).intervalStationary = (if d.content.motion then (s.pos p).intervalStationary
        else (capturedInterval (s.pos p) d).orElse (fun _ => (s.pos p).intervalStationary)) := by
    rw [State.acceptedRecord, State.withFigures_eq]; exact ⟨rfl, rfl⟩
  rw [hsupervised.1, hsupervised.2]
  cases d.content.motion with
  | true => cases capturedInterval (s.pos p) d <;> simp
  | false => cases capturedInterval (s.pos p) d <;> simp

theorem State.deadline_acceptedRecord : (s.acceptedRecord p d).deadline = some (d.tick + BitVec.ofNat 24
    (match if d.content.motion = true then (s.acceptedRecord p d).intervalMoving
        else (s.acceptedRecord p d).intervalStationary with
      | some i => max 300 (min 18000 (4 * i))
      | none => if d.content.motion = true then 600 else 6000)) := by
  have hsupervised : (s.acceptedRecord p d).deadline = some (after d.tick (timeoutOf
      (if d.content.motion then (s.acceptedRecord p d).intervalMoving else (s.acceptedRecord p d).intervalStationary)
      d.content.motion)) := by
    rw [State.acceptedRecord, State.withFigures_eq]; rfl
  rw [hsupervised]
  unfold timeoutOf
  cases (if d.content.motion = true then (s.acceptedRecord p d).intervalMoving
    else (s.acceptedRecord p d).intervalStationary) <;> rfl

theorem State.figures_acceptedRecord_none (h : d.content.pressure = none) :
    (s.acceptedRecord p d).pc = (s.pos p).pc ∧ (s.acceptedRecord p d).leakHistory = (s.pos p).leakHistory ∧
      (s.acceptedRecord p d).leakRate = (s.pos p).leakRate := by
  have hkept : s.acceptedRecord p d = supervise (s.pos p) d (landSample d (s.pos p)) := by
    unfold State.acceptedRecord State.withFigures; rw [h]
  rw [hkept]
  exact ⟨rfl, rfl, rfl⟩

/-- The temperature for Pc, once the sample's stands as the last valid one where it is valid (R64). -/
theorem temperatureUsed_orElse (sample lastTemp : Option Int) (tref : Int) :
    temperatureUsed sample (sample.orElse fun _ => lastTemp) tref = (match sample, lastTemp with
      | some x, _ => x
      | none, some x => x
      | none, none => tref) := by
  cases sample with
  | none => cases lastTemp <;> rfl
  | some x => rfl

theorem State.figures_acceptedRecord_some {pabs : Nat} (h : d.content.pressure = some pabs) : ∃ pc,
    pc = coldPressure pabs (match d.content.temperature, (s.pos p).lastTemp with
        | some x, _ => x
        | none, some x => x
        | none, none => s.settings.tref) s.settings.tref s.context.ambient ∧
      (s.acceptedRecord p d).pc = some pc ∧
      (s.acceptedRecord p d).leakHistory = leakAppend (s.pos p).leakHistory pc d.tick ∧
      (s.acceptedRecord p d).leakRate = leakRateOf (s.acceptedRecord p d).leakHistory := by
  refine ⟨_, rfl, ?_⟩
  rw [← temperatureUsed_orElse]
  have hpc : s.withPc (supervise (s.pos p) d (landSample d (s.pos p))) =
      { supervise (s.pos p) d (landSample d (s.pos p)) with pc := some (coldPressure pabs (temperatureUsed
        d.content.temperature (d.content.temperature.orElse fun _ => (s.pos p).lastTemp) s.settings.tref)
        s.settings.tref s.context.ambient) } := by
    unfold State.withPc; dsimp only [supervise, landSample]; rw [h]
  unfold State.acceptedRecord State.withFigures
  rw [h]; dsimp only
  rw [hpc]
  exact ⟨rfl, rfl, rfl⟩

end AcceptedRecord

/-- The part with an accepted sample in place at `p`, before its conditions are tested. -/
def State.placed (s : State) (p : Pos) (d : Delivery) : State := s.setPos p (s.acceptedRecord p d)

/-- The part with the transitions of the tests latched, those of `p` first (R74). -/
def State.sampleLatched (s : State) (p : Pos) (d : Delivery) : State := (s.placed p d).evaluateSample p

theorem State.accept_eq_sampleLatched (s : State) (p : Pos) (d : Delivery) : s.accept p d =
    if d.content.kind = .alert then (s.sampleLatched p d).raisedOnBoth 2 2 0x60#8 fun port =>
      reportBytes p ((s.sampleLatched p d).pos p) (((s.sampleLatched p d).pos p).latched.get port)
    else s.sampleLatched p d := rfl

theorem State.pos_accept (s : State) (p q : Pos) (d : Delivery) :
    (s.accept p d).pos q = (s.sampleLatched p d).pos q := by
  rw [State.accept_eq_sampleLatched]
  split <;> rfl

theorem State.pos_placed (s : State) (p q : Pos) (d : Delivery) :
    (s.placed p d).pos q = if q = p then s.acceptedRecord p d else s.pos q := s.pos_setPos p q _

/-- What the tests, and the latching of their transitions, leave of the positions. -/
theorem State.pos_sampleLatched (s : State) (p q : Pos) (d : Delivery) : (s.sampleLatched p d).pos q =
    { (s.placed p d).pos q with
      live := (((s.placed p d).sampleTested p).pos q).live
      latched := ((s.sampleLatched p d).pos q).latched, capture := ((s.sampleLatched p d).pos q).capture } := by
  have hlatched := (State.pos_latchAll .sample ((s.placed p d).sampleTested p)
    (wentLive (s.placed p d) ((s.placed p d).sampleTested p) p ++
      wentLive (s.placed p d) ((s.placed p d).sampleTested p) (partner p)) q).1
  rw [← State.evaluateSample_eq_latchAll] at hlatched
  unfold State.sampleLatched
  rw [hlatched, State.pos_sampleTested]

/-- A position that the tests leave is left whole, if it is not the sample's: it has no transition. -/
theorem State.pos_sampleLatched_of_tested {s : State} {p q : Pos} {d : Delivery} (hqp : q ≠ p)
    (htested : ((s.placed p d).sampleTested p).pos q = s.pos q) : (s.sampleLatched p d).pos q = s.pos q := by
  have hplaced : (s.placed p d).pos q = s.pos q := by rw [State.pos_placed, if_neg hqp]
  unfold State.sampleLatched
  rw [State.evaluateSample_eq_latchAll, ← htested]
  refine (State.pos_latchAll ..).2 fun t ht heq => ?_
  obtain hsample | hpartner := List.mem_append.1 ht
  · exact hqp (heq.symm.trans (mem_wentLive hsample).1)
  · obtain ⟨hat, hlive, hbefore⟩ := mem_wentLive hpartner
    rw [← hat, heq, htested] at hlive
    rw [← hat, heq, hplaced] at hbefore
    rw [hlive] at hbefore
    cases hbefore

/-- A sample tests its own position and, on a twin axle, the partner (R74). -/
theorem State.pos_sampleLatched_other {s : State} {p q : Pos} {d : Delivery} (hqp : q ≠ p)
    (hq : q ≠ partner p ∨ (s.axle (axleOf p)).kind ≠ .twin) : (s.sampleLatched p d).pos q = s.pos q := by
  have hnotTwin : ¬ (q = partner p ∧ ((s.placed p d).axle (axleOf p)).kind = .twin) := fun h =>
    hq.elim (fun hne => hne h.1) (fun hne => hne h.2)
  refine State.pos_sampleLatched_of_tested hqp ?_
  rw [State.pos_sampleTested, if_neg hqp, if_neg hnotTwin, State.pos_placed, if_neg hqp]

/-- Settles O15. -/
theorem acceptedDeliveryResult : Obligations.AcceptedDeliveryResult := by
  intro s d p hids hp hfresh hsession hst
  have hdeliver : s.deliver d = (s.accept p d).recomputeWarn := by
    rw [State.deliver_landed (hids.holder_eq hp) hfresh (State.sessionFor_eq_none.2 hsession),
      State.landNormally_inService hst]
  have hpos : ∀ q, (s.accept p d).recomputeWarn.pos q = (s.sampleLatched p d).pos q := fun q => by
    rw [State.recomputeWarn_pos, State.pos_accept]
  have hat := s.pos_sampleLatched p p d
  rw [State.pos_placed, if_pos rfl] at hat
  have htested := (s.placed p d).pos_sampleTested p
  have hrecord := s.acceptedRecord_eq p d
  have hframe : (s.accept p d).recomputeWarn = { s with
      positions := (s.accept p d).recomputeWarn.positions, warn := (s.accept p d).recomputeWarn.warn
      ports := (s.accept p d).recomputeWarn.ports } := by
    rw [State.recomputeWarn_eq, State.accept_eq]
  refine ⟨_, hdeliver, hframe, ?_⟩
  simp only [hpos]
  refine ⟨fun q hqp hqt => State.pos_sampleLatched_other hqp (.inl hqt), ?partner,
    fun hkind => State.pos_sampleLatched_other (partner_ne p) (.inr hkind), ?sensor, ?state, ?sample, ?lastTemp,
    fun captured hcaptured => ?intervals, ?deadline, fun hnone => ?noPressure, fun pabs hpabs => ?pressure, ?beforeHold,
    ?remaining, ?missing, s.placed p d, (s.placed p d).sampleTested p, s.sampleLatched p d, rfl, fun q hq => ?_, ?_, rfl,
    fun q => ?_, State.evaluateSample_eq_latchAll _ p, congrArg State.recomputeWarn (s.accept_eq_sampleLatched p d)⟩
  case partner =>
    have hpartner := s.pos_sampleLatched p (partner p) d
    rw [State.pos_placed, if_neg (partner_ne p)] at hpartner
    rw [hpartner]
  case sensor => rw [hat, hrecord]; exact hp
  case state => rw [hat, hrecord]
  case sample => rw [hat, hrecord]
  case lastTemp => rw [hat]; exact s.lastTemp_acceptedRecord p d
  case intervals =>
    have hinterval : captured = capturedInterval (s.pos p) d := hcaptured.trans (capturedInterval_eq d (s.pos p)).symm
    rw [hat, hinterval]
    exact s.intervals_acceptedRecord p d
  case deadline => rw [hat]; exact s.deadline_acceptedRecord p d
  case noPressure => rw [hat]; exact s.figures_acceptedRecord_none p d hnone
  case pressure => rw [hat]; exact s.figures_acceptedRecord_some p d hpabs
  case beforeHold => rw [hat, hrecord]
  case remaining => rw [hat, hrecord]
  case missing =>
    rw [hat, htested, if_pos rfl, State.missing_testedLive, State.pos_placed, if_pos rfl, hrecord]
    exact (hasKind_dropKind ..).trans (by simp)
  · rw [State.pos_placed, if_neg hq]
  · rw [hat, State.pos_placed, if_pos rfl, hrecord]
  · rw [htested]
    by_cases hqp : q = p
    · simp only [if_pos hqp]; rfl
    · have hsame : (s.placed p d).pos q = s.pos q := by rw [State.pos_placed, if_neg hqp]
      simp only [if_neg hqp, hsame]; rfl

/-! ### END_OF_STARTING (R57, R109, R111, R128, R160, R161, R175) -/

theorem State.mapPos_eq_self {s : State} {f : Pos → Position → Position} (h : ∀ p, f p (s.pos p) = s.pos p) :
    s.mapPos f = s := by
  have hpositions : (s.mapPos f).positions = s.positions :=
    positions_ext fun p => (s.pos_mapPos f p).trans (h p)
  calc s.mapPos f
    _ = { s with positions := (s.mapPos f).positions } := by simp only [State.mapPos]
    _ = s := by rw [hpositions]

/-- With no position ACTIVE, a re-evaluation finds nothing to do (R76). -/
theorem State.reevaluate_inactive {s : State} (h : ∀ p, (s.pos p).state ≠ .active) : s.reevaluate = s := by
  have hmeasured : s.recomputeAllPc = s := State.mapPos_eq_self fun p => if_neg (h p)
  have htested : s.retestAll = s := State.mapPos_eq_self fun p => if_neg (h p)
  have hnone : transitionsBetween s s = [] := by
    rw [transitionsBetween, List.flatMap_eq_nil_iff]
    exact fun p _ => by rw [transitions_self, List.map_nil]
  unfold State.reevaluate; dsimp only
  rw [hmeasured, htested, hnone, State.latchAll_nil]

/-- Nothing is counted where nothing is live or latched (R125). -/
theorem State.counted_eq_zero {s : State}
    (h : ∀ p, (s.pos p).live = 0 ∧ (s.pos p).latched.a = 0 ∧ (s.pos p).latched.b = 0) : s.counted = 0 := by
  have hnone : ∀ p, countedAt s.settings.lampPorts (s.pos p) = 0 := fun p => by
    obtain ⟨hlive, ha, hb⟩ := h p
    unfold countedAt
    rw [hlive, ha, hb]
    split <;> rfl
  exact List.foldl_fixed' (fun p => by rw [hnone p]; exact BitVec.or_zero) allPositions

/-- A frame joins a queue by the mode, the queue and the overflow flag alone (R171, R173). -/
theorem PortCtl.enqueue_congr {c x : PortCtl} (hmode : c.mode = x.mode) (hqueue : c.queue = x.queue)
    (hoverflow : c.overflow = x.overflow) (f : TxFrame) :
    (c.enqueue f).queue = (x.enqueue f).queue ∧ (c.enqueue f).overflow = (x.enqueue f).overflow := by
  obtain ⟨mode, queue, _, _, _, overflow⟩ := c
  obtain rfl : mode = x.mode := hmode
  obtain rfl : queue = x.queue := hqueue
  obtain rfl : overflow = x.overflow := hoverflow
  unfold PortCtl.enqueue
  split <;> rename_i h <;> rw [h] <;> dsimp only
  · split <;> exact ⟨rfl, rfl⟩
  · split
    · exact ⟨rfl, rfl⟩
    · split
      · exact ⟨rfl, rfl⟩
      · split <;> exact ⟨rfl, rfl⟩

theorem State.port_raisedOnBoth (s : State) (pr : BitVec 3) (cls : BitVec 2) (code : Byte) (data : Port → List Byte)
    (port : Port) : (s.raisedOnBoth pr cls code data).port port = (s.port port).enqueue
      { ident := pr ++ cls ++ code ++ 0xFF#8 ++ s.address, data := data port, sending := false } := by
  cases port <;> rfl

section Started

variable (s : State)

theorem State.inactive_startRunning (p : Pos) : (s.startRunning.pos p).state ≠ .active := by
  rw [State.pos_startRunning]
  cases (s.takenIds[p.val]?).getD none with
  | none => nofun
  | some id => rw [loadedPosition_some]; dsimp only; split <;> nofun

theorem State.quiet_startRunning (p : Pos) : (s.startRunning.pos p).live = 0 ∧
    (s.startRunning.pos p).latched.a = 0 ∧ (s.startRunning.pos p).latched.b = 0 := by
  rw [State.pos_startRunning]
  exact ⟨rfl, rfl, rfl⟩

/-- The push that the raised body makes at the end of STARTING (R111). -/
def State.startPush (i : ProfileNo) : StackChange :=
  pushChange s.stack { index := i, origin := .body } .bodyRaised none

/-- The part RUNNING, with STACK CHANGED raised where the body is up and a tipping profile named. -/
def State.startedWithBody : State :=
  match s.body, s.startRunning.settings.tipping with
  | true, some i => ({ s.startRunning with stack := (s.startPush i).stack } : State).raisedOnBoth 3 2 0x62#8
      fun _ => stackBytes (s.startPush i)
  | _, _ => s.startRunning

theorem exec_endOfStarting (hp : s.phase = .starting) :
    exec .endOfStarting s = .next s.startedWithBody.recomputeWarn := by
  have hbody : s.startRunning.bodyState = if s.body then .raised else .lowered := rfl
  have hexec : exec .endOfStarting s = .next
      (if s.startRunning.bodyState = .raised then s.startRunning.bodyRises else s.startRunning).recomputeWarn :=
    congrArg Host.Outcome.next (if_pos hp)
  have hinactive : ∀ i, (({ s.startRunning with stack := (s.startPush i).stack } : State).raisedOnBoth 3 2 0x62#8
      fun _ => stackBytes (s.startPush i)).reevaluate = ({ s.startRunning with
        stack := (s.startPush i).stack } : State).raisedOnBoth 3 2 0x62#8 fun _ => stackBytes (s.startPush i) :=
    fun i => State.reevaluate_inactive s.inactive_startRunning
  rw [hexec, hbody]
  unfold State.startedWithBody
  cases s.body with
  | false => rfl
  | true =>
    simp only [if_true]
    unfold State.bodyRises
    cases s.startRunning.settings.tipping with
    | none => rfl
    | some i => exact congrArg (Host.Outcome.next ∘ State.recomputeWarn) (hinactive i)

theorem State.startedWithBody_eq : s.startedWithBody = { s.startRunning with
    stack := s.startedWithBody.stack, ports := s.startedWithBody.ports } := by
  unfold State.startedWithBody
  split <;> rfl

theorem State.stack_startedWithBody (hstack : s.stack = [{ index := 0, origin := .reset }]) :
    s.startedWithBody.stack = if s.body = true then
        match s.startRunning.settings.tipping with
        | some i => [{ index := 0, origin := .reset }, { index := i, origin := .body }]
        | none => [{ index := 0, origin := .reset }]
      else [{ index := 0, origin := .reset }] := by
  unfold State.startedWithBody State.startPush
  cases s.body with
  | false => exact hstack
  | true =>
    cases s.startRunning.settings.tipping with
    | none => exact hstack
    | some i => rw [hstack]; rfl

/-- The port as the end of STARTING leaves it before a frame is raised (R175). -/
def State.startedPort (port : Port) : PortCtl :=
  (s.port port).startRotation s.tick (s.startRunning.settings.reportPeriod.get port)

theorem State.port_startRunning (port : Port) : s.startRunning.port port = s.startedPort port := by
  cases port <;> rfl

/-- STACK CHANGED as the end of STARTING raises it (R109, R185). -/
def State.startFrame (i : ProfileNo) : TxFrame :=
  { ident := (3#3 ++ 2#2 ++ 0x62#8 ++ 0xFF#8 ++ (0x70#8 + s.straps.setWidth 8) : BitVec 29)
    data := [byteOf (2 + 4 * 3 + 64), 0xFF, 2, optEntry (some { index := 0, origin := .reset }),
      optEntry (some { index := i, origin := .body }), 0xFF]
    sending := false }

theorem State.port_startedWithBody_raised {s : State} {i : ProfileNo} (hbody : s.body = true)
    (htipping : s.startRunning.settings.tipping = some i) (hstack : s.stack = [{ index := 0, origin := .reset }])
    (port : Port) : s.startedWithBody.port port = (s.startedPort port).enqueue (s.startFrame i) := by
  have hbytes : stackBytes (s.startPush i) = (s.startFrame i).data := by
    unfold State.startPush; rw [hstack]; rfl
  unfold State.startedWithBody
  rw [hbody, htipping]; dsimp only
  rw [State.port_raisedOnBoth, hbytes]
  exact congrArg (PortCtl.enqueue · (s.startFrame i)) (s.port_startRunning port)

theorem State.port_startedWithBody_quiet {s : State}
    (h : s.body = false ∨ s.startRunning.settings.tipping = none) (port : Port) :
    s.startedWithBody.port port = s.startedPort port := by
  rw [← State.port_startRunning]
  unfold State.startedWithBody
  split
  · next i hbody htipping =>
    rw [hbody, htipping] at h
    exact absurd h (by nofun)
  · rfl

/-- Apart from queue and overflow flag, the raised frame leaves the port. -/
theorem State.port_startedWithBody (port : Port) : s.startedWithBody.port port = { s.startedPort port with
    queue := (s.startedWithBody.port port).queue, overflow := (s.startedWithBody.port port).overflow } := by
  have hraised : s.startedWithBody.port port = s.startedPort port ∨
      ∃ f, s.startedWithBody.port port = (s.startedPort port).enqueue f := by
    unfold State.startedWithBody
    split
    · next i hbody htipping =>
      rw [State.port_raisedOnBoth]
      exact .inr ⟨_, congrArg₂ PortCtl.enqueue (s.port_startRunning port) rfl⟩
    · exact .inl (s.port_startRunning port)
  obtain h | ⟨f, h⟩ := hraised
  · rw [h]
  · rw [h]; exact PortCtl.enqueue_eq ..

theorem State.counted_startedWithBody : s.startedWithBody.counted = 0 := by
  refine State.counted_eq_zero fun p => ?_
  rw [State.pos_congr (t := s.startedWithBody) (s := s.startRunning) (by rw [State.startedWithBody_eq])]
  exact s.quiet_startRunning p

/-- With nothing counted the lamp is dark. -/
theorem State.recomputeWarn_dark {t : State} (hcounted : t.counted = 0) :
    t.recomputeWarn.warn.level = .off ∧
      ((t.warn.level = .off → t.warn.high = false) → t.recomputeWarn.warn.high = false) := by
  have hoff : levelOf t.counted = .off := by rw [hcounted]; decide
  refine ⟨t.recomputeWarn_level.trans hoff, fun hdark => ?_⟩
  by_cases hlevel : t.warn.level = .off
  · rw [State.recomputeWarn_of_level (hlevel.trans hoff.symm)]; exact hdark hlevel
  · unfold State.recomputeWarn; dsimp only
    rw [hoff, if_neg fun h => hlevel h.symm]
    rfl

end Started

/-- Settles O5. -/
theorem endOfStartingLoadsTheStore : Obligations.EndOfStartingLoadsTheStore := by
  intro s hp
  have hwarn := State.recomputeWarn_dark s.counted_startedWithBody
  have hframe : s.startedWithBody.recomputeWarn = { s.startRunning with
      stack := s.startedWithBody.stack, ports := s.startedWithBody.ports
      warn := s.startedWithBody.recomputeWarn.warn } := by
    rw [State.recomputeWarn_eq, State.startedWithBody_eq]
  generalize ht : s.startedWithBody.recomputeWarn = t at hwarn hframe
  have hstack : t.stack = s.startedWithBody.stack := by rw [hframe]
  have hports : ∀ port, t.port port = s.startedWithBody.port port := fun port => by rw [hframe]; rfl
  have hsettings : t.settings = s.startRunning.settings := by rw [hframe]
  have hpos : ∀ p, t.pos p = s.startRunning.pos p := State.pos_congr (by rw [hframe])
  have hexists : ∀ p, t.posExists p = s.startRunning.posExists p := State.posExists_congr (by rw [hframe])
  refine ⟨t, ht ▸ exec_endOfStarting s hp, ?_⟩
  refine ⟨?_, ?_, ?_, ?_, ?_, ?_, ?_, ?_, ?_, ?_, ?_, ?_, ?_, ?_, ?bodyState, ?_, hwarn.1, ?_, ?_, ?_, ?_, ?_, ?_,
    ?flagT, ?flagL, ?flagP, ?_, ?_, ?_, fun a => ?axle, fun i => ?profile, ?_, ?_, fun p id => ?sensor,
    fun p hnone => ?emptied, fun p id hsome => ?loaded, fun hreset => ?stack, fun port => ?port, fun hdark => ?lamp⟩
  case bodyState => rw [hframe]; cases hbody : s.body <;> simp [State.startRunning, State.loadStore, hbody]
  case flagT => rw [hframe]; exact Option.isNone_iff_eq_none
  case flagL => rw [hframe]; exact Option.isNone_iff_eq_none
  case flagP => rw [hframe]; exact Option.isNone_iff_eq_none
  case axle => rw [State.axle_congr (t := t) (s := s.startRunning) (by rw [hframe])]; exact s.axle_startRunning a
  case profile =>
    rw [State.profile_congr (t := t) (s := s.startRunning) (by rw [hframe])]; exact s.profile_startRunning i
  case sensor =>
    simp only [hpos, hexists]
    exact State.sensor_startRunning
  case emptied =>
    rw [hpos, State.pos_startRunning] at hnone ⊢
    rw [loadedPosition_sensor] at hnone
    rw [hnone, loadedPosition_none]
  case loaded =>
    rw [hpos, State.pos_startRunning] at hsome ⊢
    rw [loadedPosition_sensor] at hsome
    rw [hsome, loadedPosition_some]
  case stack => rw [hstack, hsettings]; exact s.stack_startedWithBody hreset
  case port =>
    have hperiod : ∀ m, (s.port port).mode = m → (s.startedPort port).periodDue = (match m with
        | .active => some (after s.tick (s.startRunning.settings.reportPeriod.get port))
        | .busOff _ => none) := fun m hm => by rw [← hm]; rfl
    rw [hports, hsettings]
    have hport := s.port_startedWithBody port
    refine ⟨by rw [hport]; rfl, by rw [hport]; rfl, by rw [hport]; rfl, fun hactive => ?_, fun hbusOff => ?_,
      fun hquiet => ?_, fun i raised hreset hbody htipping hraised => ?_⟩
    · rw [hport]; exact hperiod _ hactive
    · rw [hport]
      cases hmode : (s.port port).mode with
      | active => exact absurd hmode hbusOff
      | busOff since => exact hperiod _ hmode
    · rw [State.port_startedWithBody_quiet hquiet]; exact ⟨rfl, rfl⟩
    · rw [State.port_startedWithBody_raised hbody htipping hreset, hraised]
      exact PortCtl.enqueue_congr (c := s.startedPort port) (x := s.port port) rfl rfl rfl (s.startFrame i)
  case lamp =>
    refine hwarn.2 ?_
    rw [State.startedWithBody_eq]
    exact hdark
  all_goals rw [hframe]; rfl

/-! ### Positions that stop existing and the walk (R141, R142) -/

theorem State.LeftWalk.congr {s t u : State} {gone : Pos → Bool} (h : s.LeftWalk t gone) (hteach : u.teach = t.teach) :
    s.LeftWalk u gone := by
  unfold State.LeftWalk
  rw [hteach]
  exact h

theorem State.LeftWalkShown.congr {s t u : State} {gone : Pos → Bool} (h : s.LeftWalkShown t gone)
    (hports : u.ports = t.ports) : s.LeftWalkShown u gone := by
  unfold State.LeftWalkShown
  rw [hports]
  exact h

section LeavesWalk

variable {s v : State} (hteach : v.teach = s.teach) (gone : Pos → Bool)
include hteach

theorem State.leftWalk_removeFromTeach (htick : v.tick = s.tick) :
    s.LeftWalk (v.removeFromTeach gone true .complete) gone := by
  refine ⟨fun hnone => ?_, fun t queue ht hqueue => ⟨fun hempty => ?_, fun hleft => ?_⟩⟩
  · rw [State.removeFromTeach_none _ _ (hteach.trans hnone)]; exact hteach.trans hnone
  · rw [State.removeFromTeach_emptied _ _ (hteach.trans ht) (hqueue ▸ hempty)]
  · rw [State.removeFromTeach_kept _ _ (hteach.trans ht) (hqueue ▸ hleft), hqueue, ← htick]
    rfl

theorem State.leftWalkShown_removeFromTeach (hports : v.ports = s.ports) (hstraps : v.straps = s.straps) :
    s.LeftWalkShown (v.removeFromTeach gone true .complete) gone := by
  refine ⟨fun hnone => ?_, fun t ht => ?_⟩
  · rw [State.removeFromTeach_none _ _ (hteach.trans hnone)]; exact hports
  · split
    · next hempty =>
      rw [State.removeFromTeach_emptied _ _ (hteach.trans ht) hempty]
      exact State.notice_ports_congr hports hstraps _ _
    · next hleft => rw [State.removeFromTeach_kept _ _ (hteach.trans ht) hleft]; exact hports

theorem State.grant_removeFromTeach (hgrant : v.grant = s.grant) (htick : v.tick = s.tick) :
    (∀ t, s.teach = some t → t.queue.filter (fun p => !gone p) = [] →
      (v.removeFromTeach gone true .complete).grant = { s.grant with idleTimer := some s.tick }) ∧
    (∀ t, s.teach = some t → t.queue.filter (fun p => !gone p) ≠ [] →
      (v.removeFromTeach gone true .complete).grant = s.grant) ∧
    (s.teach = none → (v.removeFromTeach gone true .complete).grant = s.grant) := by
  refine ⟨fun t ht hempty => ?_, fun t ht hleft => ?_, fun hnone => ?_⟩
  · rw [State.removeFromTeach_emptied _ _ (hteach.trans ht) hempty, hgrant, htick]
  · rw [State.removeFromTeach_kept _ _ (hteach.trans ht) hleft]; exact hgrant
  · rw [State.removeFromTeach_none _ _ (hteach.trans hnone)]; exact hgrant

end LeavesWalk

/-! ### WRITE AXLE (R31, R32, R62, R75, R118, R154) -/

/-- The part with the axle's new kind and the positions that stop existing reset. -/
def State.kindTaken (s : State) (a : AxleNo) (k : AxleKind) : State :=
  (s.setAxle a { s.axle a with kind := k }).resetAll (allPositions.filter (s.stopsExisting a k))

theorem State.kindTaken_eq (s : State) (a : AxleNo) (k : AxleKind) : s.kindTaken a k =
    { s with axles := (s.kindTaken a k).axles, positions := (s.kindTaken a k).positions } := by
  have hframe := State.resetAll_eq (s.setAxle a { s.axle a with kind := k })
    (allPositions.filter (s.stopsExisting a k))
  have hforeign := State.foreign_resetAll (s.setAxle a { s.axle a with kind := k })
    (allPositions.filter (s.stopsExisting a k))
  rw [hforeign] at hframe
  unfold State.kindTaken
  rw [hframe]
  rfl

/-- An axle's new kind, walk and lifted axles included (R62, R141). -/
theorem State.changeKind_eq_kindTaken (s : State) (a : AxleNo) (k : AxleKind) : s.changeKind a k =
    if k = .absent then ((s.kindTaken a k).removeFromTeach (s.stopsExisting a k) true .complete).lowerAxle a
    else (s.kindTaken a k).removeFromTeach (s.stopsExisting a k) true .complete := rfl

theorem State.walk_changeKind (s : State) (a : AxleNo) (k : AxleKind) :
    (s.changeKind a k).teach = ((s.kindTaken a k).removeFromTeach (s.stopsExisting a k) true .complete).teach ∧
    (s.changeKind a k).ports = ((s.kindTaken a k).removeFromTeach (s.stopsExisting a k) true .complete).ports ∧
    (s.changeKind a k).grant = ((s.kindTaken a k).removeFromTeach (s.stopsExisting a k) true .complete).grant := by
  rw [State.changeKind_eq_kindTaken]
  split
  · exact ⟨rfl, rfl, rfl⟩
  · exact ⟨rfl, rfl, rfl⟩

theorem State.leftWalk_changeKind (s : State) (a : AxleNo) (k : AxleKind) :
    s.LeftWalk (s.changeKind a k) (s.stopsExisting a k) ∧ s.LeftWalkShown (s.changeKind a k) (s.stopsExisting a k) := by
  have hframe := s.kindTaken_eq a k
  have hteach : (s.kindTaken a k).teach = s.teach := by rw [hframe]
  obtain ⟨hwalk, hports, -⟩ := s.walk_changeKind a k
  refine ⟨(State.leftWalk_removeFromTeach hteach _ ?_).congr hwalk,
    (State.leftWalkShown_removeFromTeach hteach _ ?_ ?_).congr hports⟩ <;> rw [hframe]

theorem State.grant_changeKind (s : State) (a : AxleNo) (k : AxleKind) :
    (∀ t, s.teach = some t → t.queue.filter (fun p => !s.stopsExisting a k p) = [] →
      (s.changeKind a k).grant = { s.grant with idleTimer := some s.tick }) ∧
    (∀ t, s.teach = some t → t.queue.filter (fun p => !s.stopsExisting a k p) ≠ [] →
      (s.changeKind a k).grant = s.grant) ∧
    (s.teach = none → (s.changeKind a k).grant = s.grant) := by
  have hframe := s.kindTaken_eq a k
  have hteach : (s.kindTaken a k).teach = s.teach := by rw [hframe]
  obtain ⟨-, -, hgrant⟩ := s.walk_changeKind a k
  rw [hgrant]
  exact State.grant_removeFromTeach hteach _ (by rw [hframe]) (by rw [hframe])

theorem State.stopsExisting_eq_true {s : State} {a : AxleNo} {k : AxleKind} {p : Pos} :
    s.stopsExisting a k p = true ↔ axleOf p = a ∧ s.posExists p = true ∧ slotExists k (slotOf p) = false := by
  rw [State.stopsExisting, Bool.and_eq_true, Bool.and_eq_true, beq_iff_eq, Bool.not_eq_true', and_assoc]

theorem Position.assigned_iff {x : Position} : x.assigned = true ↔ x.sensor.isSome = true ∨ x.state ≠ .unassigned := by
  rw [Position.assigned, Bool.or_eq_true, bne_iff_ne]

section WriteAxleRead

variable {r : Request} {s : State} {a : AxleNo} {m : Nat}

/-- The write that the frame of a WRITE AXLE carries. -/
def axleWriteOf (r : Request) (a : AxleNo) (m : Nat) : AxleWrite :=
  { axle := a, kind := if m.testBit 0 = true then byteAt r 2 else none
    unladen := if m.testBit 1 = true then wordAt r 3 else none
    laden := if m.testBit 2 = true then wordAt r 5 else none }

/-- The kind that a write gives an axle of kind `old`; `none` where its code names none. -/
def AxleWrite.kindFor (w : AxleWrite) (old : AxleKind) : Option AxleKind :=
  match w.kind with
  | none => some old
  | some code => AxleKind.ofCode code

theorem exec_writeAxle_served (hserved : s.servesHolder r) (ha : byteAt r 0 = some a.val) (hm : byteAt r 1 = some m) :
    exec (.writeAxle r) s = .next
      (match (axleWriteOf r a m).kindFor (s.axle a).kind with
      | none => s.refuse r codeWriteAxle .invalid
      | some k =>
        if (axleWriteOf r a m).kind.isNone && (axleWriteOf r a m).unladen.isNone && (axleWriteOf r a m).laden.isNone then
          s.refreshIdle.reply r codeWriteAxle .done
        else if k != (s.axle a).kind && truckAxle a && s.grant.truckLock then s.refuse r codeWriteAxle .locked
        else (s.applyAxle (axleWriteOf r a m) k).reply r codeWriteAxle
          (if (axleWriteOf r a m).clamps then .clamped else .done)) := by
  have hoperand : axleWriteOperand r = some (axleWriteOf r a m) := by
    have haxle : (byteAt r 0).bind axleOfCode = some a := by
      rw [ha, Option.bind_some, axleOfCode, dif_pos a.isLt]
    unfold axleWriteOperand
    rw [haxle, hm]
    rfl
  simp only [exec, execWriteAxle, hoperand]
  rw [State.edit_served codeWriteAxle _ _ hserved]
  rfl

theorem exec_writeAxle_invalid (hserved : s.servesHolder r) (ha : byteAt r 0 = some a.val)
    (hm : byteAt r 1 = some m) (hk : (axleWriteOf r a m).kindFor (s.axle a).kind = none) :
    exec (.writeAxle r) s = .next (s.refuse r codeWriteAxle .invalid) := by
  rw [exec_writeAxle_served hserved ha hm, hk]

theorem exec_writeAxle_named (hserved : s.servesHolder r) (ha : byteAt r 0 = some a.val) (hm : byteAt r 1 = some m)
    {k : AxleKind} (hk : (axleWriteOf r a m).kindFor (s.axle a).kind = some k) :
    exec (.writeAxle r) s = .next
      (if (axleWriteOf r a m).kind.isNone && (axleWriteOf r a m).unladen.isNone && (axleWriteOf r a m).laden.isNone then
        s.refreshIdle.reply r codeWriteAxle .done
      else if k != (s.axle a).kind && truckAxle a && s.grant.truckLock then s.refuse r codeWriteAxle .locked
      else (s.applyAxle (axleWriteOf r a m) k).reply r codeWriteAxle
        (if (axleWriteOf r a m).clamps then .clamped else .done)) := by
  rw [exec_writeAxle_served hserved ha hm, hk]

/-- No field selected and sent. -/
theorem exec_writeAxle_blank (hserved : s.servesHolder r) (ha : byteAt r 0 = some a.val) (hm : byteAt r 1 = some m)
    (hkind : (axleWriteOf r a m).kind = none) (hunladen : (axleWriteOf r a m).unladen = none)
    (hladen : (axleWriteOf r a m).laden = none) :
    exec (.writeAxle r) s = .next (s.refreshIdle.reply r codeWriteAxle .done) := by
  have hk : (axleWriteOf r a m).kindFor (s.axle a).kind = some (s.axle a).kind := by
    unfold AxleWrite.kindFor; rw [hkind]
  rw [exec_writeAxle_named hserved ha hm hk, hkind, hunladen, hladen]
  rfl

/-- The kind of a truck axle is shielded by the lock (R157). -/
theorem exec_writeAxle_locked (hserved : s.servesHolder r) (ha : byteAt r 0 = some a.val) (hm : byteAt r 1 = some m)
    {k : AxleKind} {code : Nat} (hcode : (axleWriteOf r a m).kind = some code) (hk : AxleKind.ofCode code = some k)
    (hnew : k ≠ (s.axle a).kind) (htruck : truckAxle a = true) (hlock : s.grant.truckLock = true) :
    exec (.writeAxle r) s = .next (s.refuse r codeWriteAxle .locked) := by
  have hnamed : (axleWriteOf r a m).kindFor (s.axle a).kind = some k := by
    unfold AxleWrite.kindFor; rw [hcode]; exact hk
  rw [exec_writeAxle_named hserved ha hm hnamed, hcode, bne_iff_ne.2 hnew, htruck, hlock]
  rfl

theorem exec_writeAxle_applied (hserved : s.servesHolder r) (ha : byteAt r 0 = some a.val) (hm : byteAt r 1 = some m)
    {k : AxleKind} (hk : (axleWriteOf r a m).kindFor (s.axle a).kind = some k)
    (hsent : (axleWriteOf r a m).kind ≠ none ∨ (axleWriteOf r a m).unladen ≠ none ∨ (axleWriteOf r a m).laden ≠ none)
    (hopen : k = (s.axle a).kind ∨ truckAxle a = false ∨ s.grant.truckLock = false) :
    exec (.writeAxle r) s = .next ((s.applyAxle (axleWriteOf r a m) k).reply r codeWriteAxle
      (if (axleWriteOf r a m).clamps then .clamped else .done)) := by
  have hselected : ¬ ((axleWriteOf r a m).kind.isNone && (axleWriteOf r a m).unladen.isNone &&
      (axleWriteOf r a m).laden.isNone) = true := by
    simp only [Bool.and_eq_true, Option.isNone_iff_eq_none]
    tauto
  have hunlocked : ¬ (k != (s.axle a).kind && truckAxle a && s.grant.truckLock) = true := by
    simp only [Bool.and_eq_true, bne_iff_ne]
    obtain h | h | h := hopen <;> simp [h]
  rw [exec_writeAxle_named hserved ha hm hk, if_neg hselected, if_neg hunlocked]

theorem ofCode_code (k : AxleKind) : AxleKind.ofCode k.code = some k := by cases k <;> rfl

theorem ofCode_of_gt {n : Nat} (h : 2 < n) : AxleKind.ofCode n = none := by
  match n, h with
  | n + 3, _ => rfl

theorem ofCode_of_le {n : Nat} (h : n ≤ 2) : ∃ k, AxleKind.ofCode n = some k ∧ k.code = n := by
  match n, h with
  | 0, _ => exact ⟨.absent, rfl, rfl⟩
  | 1, _ => exact ⟨.single, rfl, rfl⟩
  | 2, _ => exact ⟨.twin, rfl, rfl⟩

end WriteAxleRead

theorem clampTarget_changes (n : Nat) : (clampTarget n != n) = (decide (n < 100) || decide (1200 < n)) := by
  rw [Bool.eq_iff_iff, bne_iff_ne, Bool.or_eq_true, decide_eq_true_eq, decide_eq_true_eq]
  simp only [clampTarget, clampNat]
  omega

theorem AxleWrite.clamps_eq (w : AxleWrite) : w.clamps =
    ((w.unladen.any fun n => n < 100 || 1200 < n) || (w.laden.any fun n => n < 100 || 1200 < n)) := by
  simp only [AxleWrite.clamps, clampTarget_changes]

/-- The part with kind and targets written and the change marked, before it is re-evaluated. -/
def State.axleMarked (s : State) (w : AxleWrite) (k : AxleKind) : State :=
  if s.axleWritten w k = s.axle w.axle then (s.takeKind w.axle k).setAxle w.axle (s.axleWritten w k)
  else ((s.takeKind w.axle k).setAxle w.axle (s.axleWritten w k)).mark (sectionOf (truckAxle w.axle))

theorem State.applyAxle_eq_axleMarked (s : State) (w : AxleWrite) (k : AxleKind) : s.applyAxle w k =
    (if (s.axleWritten w k).unladen = (s.axle w.axle).unladen ∧ (s.axleWritten w k).laden = (s.axle w.axle).laden then
      s.axleMarked w k else (s.axleMarked w k).reevaluate).refreshIdle.recomputeWarn := s.applyAxle_eq w k

/-- What the re-evaluation, the idle timer and the WARN level leave as the write put it. -/
theorem State.applyAxle_keeps (s : State) (w : AxleWrite) (k : AxleKind) :
    (s.applyAxle w k).axles = (s.axleMarked w k).axles ∧ (s.applyAxle w k).profiles = (s.axleMarked w k).profiles ∧
    (s.applyAxle w k).settings = (s.axleMarked w k).settings ∧ (s.applyAxle w k).stack = (s.axleMarked w k).stack ∧
    (s.applyAxle w k).store = (s.axleMarked w k).store ∧ (s.applyAxle w k).context = (s.axleMarked w k).context ∧
    (s.applyAxle w k).teach = (s.axleMarked w k).teach ∧
    (s.applyAxle w k).grant.marks = (s.axleMarked w k).grant.marks ∧
    (s.applyAxle w k).grant.state = (s.axleMarked w k).grant.state := by
  rw [State.applyAxle_eq_axleMarked, State.recomputeWarn_eq, State.refreshIdle_eq]
  split
  · exact ⟨rfl, rfl, rfl, rfl, rfl, rfl, rfl, rfl, rfl⟩
  · rw [State.reevaluate_eq]; exact ⟨rfl, rfl, rfl, rfl, rfl, rfl, rfl, rfl, rfl⟩

/-- A position that is not ACTIVE once the write is marked is left so. -/
theorem State.pos_applyAxle_inactive {s : State} {w : AxleWrite} {k : AxleKind} {p : Pos}
    (h : ((s.axleMarked w k).pos p).state ≠ .active) : (s.applyAxle w k).pos p = (s.axleMarked w k).pos p := by
  rw [State.applyAxle_eq_axleMarked, State.recomputeWarn_pos, State.refreshIdle_pos]
  split
  · rfl
  · exact ((s.axleMarked w k).pos_reevaluate p).2 h

theorem State.axleMarked_eq (s : State) (w : AxleWrite) (k : AxleKind) : s.axleMarked w k =
    { (s.takeKind w.axle k).setAxle w.axle (s.axleWritten w k) with
      grant := { (s.takeKind w.axle k).grant with
        marks := if s.axleWritten w k = s.axle w.axle then (s.takeKind w.axle k).grant.marks
          else (s.takeKind w.axle k).grant.marks.set (if truckAxle w.axle = true then .t else .l) true } } := by
  unfold State.axleMarked
  split
  · rfl
  · rfl

/-- A new kind leaves the profiles, the settings, the stack, the store, the changed marks and the grant's state. -/
theorem State.takeKind_keeps (s : State) (a : AxleNo) (k : AxleKind) :
    (s.takeKind a k).profiles = s.profiles ∧ (s.takeKind a k).settings = s.settings ∧
    (s.takeKind a k).stack = s.stack ∧ (s.takeKind a k).store = s.store ∧
    (s.takeKind a k).grant.marks = s.grant.marks ∧ (s.takeKind a k).grant.state = s.grant.state := by
  unfold State.takeKind
  split
  · exact ⟨rfl, rfl, rfl, rfl, rfl, rfl⟩
  · rw [State.changeKind_eq]; exact ⟨rfl, rfl, rfl, rfl, rfl, rfl⟩

theorem State.takeKind_same {s : State} {a : AxleNo} {k : AxleKind} (h : k = (s.axle a).kind) :
    s.takeKind a k = s := if_pos h

theorem State.takeKind_new {s : State} {a : AxleNo} {k : AxleKind} (h : k ≠ (s.axle a).kind) :
    s.takeKind a k = s.changeKind a k := if_neg h

theorem Axle.eq_of_fields {x y : Axle} (hkind : x.kind = y.kind) (hunladen : x.unladen = y.unladen)
    (hladen : x.laden = y.laden) : x = y := by
  obtain ⟨kind, unladen, laden⟩ := x
  obtain rfl : kind = y.kind := hkind
  obtain rfl : unladen = y.unladen := hunladen
  obtain rfl : laden = y.laden := hladen
  rfl

/-- With the kind it has, an axle is written by its targets alone. -/
theorem State.applyAxle_sameKind {s : State} {w : AxleWrite} {k : AxleKind} (hk : k = (s.axle w.axle).kind) :
    (s.axleWritten w k ≠ s.axle w.axle → s.applyAxle w k =
      ((s.setAxle w.axle (s.axleWritten w k)).mark
        (if truckAxle w.axle = true then .t else .l)).reevaluate.refreshIdle.recomputeWarn) ∧
    (s.axleWritten w k = s.axle w.axle → s.applyAxle w k = s.refreshIdle.recomputeWarn) := by
  rw [State.applyAxle_eq_axleMarked, State.axleMarked, State.takeKind_same hk]
  refine ⟨fun hne => ?_, fun heq => ?_⟩
  · have htargets : ¬ ((s.axleWritten w k).unladen = (s.axle w.axle).unladen ∧
        (s.axleWritten w k).laden = (s.axle w.axle).laden) := fun h => hne (Axle.eq_of_fields hk h.1 h.2)
    rw [if_neg hne, if_neg htargets]
    rfl
  · have htargets : (s.axleWritten w k).unladen = (s.axle w.axle).unladen ∧
        (s.axleWritten w k).laden = (s.axle w.axle).laden := by rw [heq]; exact ⟨rfl, rfl⟩
    rw [if_pos heq, if_pos htargets, State.setAxle_self heq]

/-- The frame of a new kind: the axle's record, the positions, the lifted axles, the walk, the grant and the ports. -/
theorem State.changeKind_frame (s : State) (a : AxleNo) (k : AxleKind) : s.changeKind a k =
    { s.setAxle a { s.axle a with kind := k } with
      positions := (s.changeKind a k).positions, context := (s.changeKind a k).context
      teach := (s.changeKind a k).teach, grant := (s.changeKind a k).grant, ports := (s.changeKind a k).ports } := by
  have hframe := s.changeKind_eq a k
  rw [State.foreign_changeKind] at hframe
  have hgrant : (s.changeKind a k).grant =
      { s.grant with idleTimer := (s.changeKind a k).grant.idleTimer } := by
    conv_lhs => rw [State.changeKind_eq]
  rw [hgrant]
  exact hframe

/-- The positions of other axles keep their records, those that stop existing are emptied, and the rest of the axle's
loses at most an IMBALANCE shared with one of them (R32, R118). -/
theorem State.pos_changeKind_other {s : State} {a : AxleNo} {p : Pos} (k : AxleKind) (h : axleOf p ≠ a) :
    (s.changeKind a k).pos p = s.pos p := by
  rw [State.pos_changeKind, if_neg fun hp => h (State.stopsExisting_eq_true.1 hp.1).1,
    if_neg fun hp => h ((axleOf_partner p).symm.trans (State.stopsExisting_eq_true.1 hp.1).1)]

theorem State.pos_changeKind_stays {s : State} {a : AxleNo} {k : AxleKind} {p : Pos}
    (h : s.stopsExisting a k p = false) : (s.changeKind a k).pos p = { s.pos p with
      live := if s.stopsExisting a k (partner p) = true ∧ ((s.pos (partner p)).sensor.isSome = true ∨
          (s.pos (partner p)).state ≠ .unassigned) then
        (s.pos p).live &&& ~~~ kindMask .imbalance else (s.pos p).live } := by
  rw [State.pos_changeKind, if_neg fun hp => Bool.false_ne_true (h.symm.trans hp.1)]
  simp only [Position.assigned_iff]
  split
  · rfl
  · rfl

/-- What WRITE AXLE does with a new kind, before the targets are re-evaluated. -/
theorem State.applyAxle_newKind {s : State} {w : AxleWrite} {k : AxleKind} (hk : k ≠ (s.axle w.axle).kind) :
    s.applyAxle w k = (if (s.axleWritten w k).unladen = (s.axle w.axle).unladen ∧
        (s.axleWritten w k).laden = (s.axle w.axle).laden then
      ((s.changeKind w.axle k).setAxle w.axle (s.axleWritten w k)).mark (if truckAxle w.axle = true then .t else .l)
      else (((s.changeKind w.axle k).setAxle w.axle (s.axleWritten w k)).mark
        (if truckAxle w.axle = true then .t else .l)).reevaluate).refreshIdle.recomputeWarn := by
  have hne : s.axleWritten w k ≠ s.axle w.axle := fun h => hk (congrArg Axle.kind h)
  rw [State.applyAxle_eq_axleMarked, State.axleMarked, if_neg hne, State.takeKind_new hk]
  rfl

theorem State.pos_axleMarked (s : State) (w : AxleWrite) (k : AxleKind) (p : Pos) :
    (s.axleMarked w k).pos p = (s.takeKind w.axle k).pos p := by
  rw [State.axleMarked_eq]; rfl

/-! ### The wire's WRITE AXLE and CLEAR SECTION (R154, R155) -/

theorem State.context_changeKind_lowered (s : State) (a : AxleNo) (k : AxleKind) :
    (s.changeKind a k).context.load = s.context.load ∧ (s.changeKind a k).context.ambient = s.context.ambient ∧
    (∀ b, b ≠ a → (s.changeKind a k).lifted b = s.lifted b) ∧
    (k = .absent → (s.changeKind a k).lifted a = false) ∧ (k ≠ .absent → (s.changeKind a k).context = s.context) := by
  have hcontext := s.context_changeKind a k
  refine ⟨?_, ?_, fun b hb => ?_, fun hk => ?_, fun hk => by rw [hcontext, if_neg hk]⟩
  · rw [hcontext]; split
    · unfold State.lowerAxle; dsimp only; split <;> rfl
    · rfl
  · rw [hcontext]; split
    · unfold State.lowerAxle; dsimp only; split <;> rfl
    · rfl
  · rw [State.lifted_changeKind, decide_eq_true hb, Bool.and_true, ite_self]
  · rw [State.lifted_changeKind, if_pos hk, decide_eq_false (fun h => h rfl), Bool.and_false]

theorem State.applyAxle_axle (s : State) (w : AxleWrite) (k : AxleKind) :
    (s.applyAxle w k).axle w.axle = s.axleWritten w k ∧ ∀ b, b ≠ w.axle → (s.applyAxle w k).axle b = s.axle b := by
  have haxle : ∀ b, (s.applyAxle w k).axle b = if b = w.axle then s.axleWritten w k else s.axle b := fun b => by
    rw [← State.axle_axleWritten, State.axle_congr (s.applyAxle_keeps w k).1, State.axleMarked_eq]
    rfl
  exact ⟨(haxle _).trans (if_pos rfl), fun b hb => (haxle b).trans (if_neg hb)⟩

/-- The changed mark, and what a WRITE AXLE leaves alone. -/
theorem State.applyAxle_rest (s : State) (w : AxleWrite) (k : AxleKind) :
    (s.applyAxle w k).grant.marks = (if s.axleWritten w k = s.axle w.axle then s.grant.marks
      else s.grant.marks.set (if truckAxle w.axle = true then .t else .l) true) ∧
    (s.applyAxle w k).profiles = s.profiles ∧ (s.applyAxle w k).settings = s.settings ∧
    (s.applyAxle w k).stack = s.stack ∧ (s.applyAxle w k).store = s.store ∧
    (s.applyAxle w k).grant.state = s.grant.state := by
  obtain ⟨-, hprofiles, hsettings, hstack, hstore, -, -, hmarks, hstate⟩ := s.applyAxle_keeps w k
  obtain ⟨kprofiles, ksettings, kstack, kstore, kmarks, kstate⟩ := s.takeKind_keeps w.axle k
  rw [hprofiles, hsettings, hstack, hstore, hmarks, hstate, State.axleMarked_eq, ← kmarks, ← kprofiles, ← ksettings,
    ← kstack, ← kstore, ← kstate]
  exact ⟨rfl, rfl, rfl, rfl, rfl, rfl⟩

theorem State.applyAxle_context_teach {s : State} {w : AxleWrite} {k : AxleKind} (hk : k ≠ (s.axle w.axle).kind) :
    (s.applyAxle w k).context = (s.changeKind w.axle k).context ∧
    (s.applyAxle w k).teach = (s.changeKind w.axle k).teach := by
  obtain ⟨-, -, -, -, -, hcontext, hteach, -, -⟩ := s.applyAxle_keeps w k
  rw [hcontext, hteach, State.axleMarked_eq, State.takeKind_new hk]
  exact ⟨rfl, rfl⟩

theorem State.pos_changeKind_emptied {s : State} {a : AxleNo} {k : AxleKind} {p : Pos}
    (hgone : s.stopsExisting a k p = true) (hsensor : (s.pos p).sensor.isSome = true) :
    (s.changeKind a k).pos p = Position.empty := by
  rw [State.pos_changeKind, if_pos ⟨hgone, Position.assigned_iff.2 (.inl hsensor)⟩]

theorem State.pos_applyAxle_emptied {s : State} {w : AxleWrite} {k : AxleKind} {p : Pos}
    (hk : k ≠ (s.axle w.axle).kind) (hgone : s.stopsExisting w.axle k p = true)
    (hsensor : (s.pos p).sensor.isSome = true) : (s.applyAxle w k).pos p = Position.empty := by
  have hempty : (s.axleMarked w k).pos p = Position.empty := by
    rw [State.pos_axleMarked, State.takeKind_new hk, State.pos_changeKind_emptied hgone hsensor]
  rw [State.pos_applyAxle_inactive (by rw [hempty]; nofun), hempty]

theorem stopsExisting_of_decided {s : State} {a : AxleNo} {k : AxleKind} {gone : Pos → Bool}
    (h : ∀ p, gone p = decide (axleOf p = a ∧ s.posExists p = true ∧ slotExists k (slotOf p) = false)) :
    gone = s.stopsExisting a k := by
  funext p
  rw [h, Bool.eq_iff_iff, decide_eq_true_eq, State.stopsExisting_eq_true]

/-- The kind that the fields of a WRITE AXLE name. -/
theorem kindFor_axleWriteOf {r : Request} {a : AxleNo} {m : Nat} {kind : Option Nat} {old k : AxleKind}
    (hkind : kind = (if m.testBit 0 = true then byteAt r 2 else none))
    (hk : (kind = none ∧ k = old) ∨ kind = some k.code) : (axleWriteOf r a m).kindFor old = some k := by
  have hfield : (axleWriteOf r a m).kind = kind := hkind.symm
  unfold AxleWrite.kindFor
  obtain ⟨hnone, rfl⟩ | hsome := hk
  · rw [hfield, hnone]
  · rw [hfield, hsome]; exact ofCode_code k

theorem reply_clamped (s : State) (r : Request) (code : Byte) (b : Bool) :
    s.reply r code (if b = true then .clamped else .done) = s.answer r code [[if b = true then 1 else 0]] := by
  cases b <;> rfl

/-! CLEAR SECTION. -/

/-- The positions of a vehicle section that exist, which a CLEAR SECTION takes out of the walk (R155). -/
def State.sectionGone (s : State) (truck : Bool) (p : Pos) : Bool := inTruck p == truck && s.posExists p

/-- The part with the axles of a section ABSENT and its positions reset. -/
def State.sectionReset (s : State) (truck : Bool) : State :=
  (s.sectionAbsent truck).resetAll (allPositions.filter fun p => inTruck p == truck)

/-- Whether an axle of the section is not ABSENT, and so changes. -/
def State.sectionChanges (s : State) (truck : Bool) : Bool :=
  (List.finRange 8).any fun a => truckAxle a == truck && (s.axle a).kind != .absent

theorem State.clearVehicleSection_eq (s : State) (truck : Bool) : s.clearVehicleSection truck =
    if s.sectionChanges truck then
      ((s.sectionReset truck).removeFromTeach (s.sectionGone truck) true .complete).mark (sectionOf truck)
    else (s.sectionReset truck).removeFromTeach (s.sectionGone truck) true .complete := rfl

theorem State.sectionReset_eq (s : State) (truck : Bool) : s.sectionReset truck = { s with
    axles := (s.sectionReset truck).axles, positions := (s.sectionReset truck).positions
    context := (s.sectionReset truck).context } := by
  have hframe := State.resetAll_eq (s.sectionAbsent truck) (allPositions.filter fun p => inTruck p == truck)
  rw [State.foreign_resetAll] at hframe
  unfold State.sectionReset
  rw [hframe]
  rfl

theorem State.sectionChanges_eq_false {s : State} {truck : Bool} :
    s.sectionChanges truck = false ↔ ∀ a, truckAxle a = truck → (s.axle a).kind = .absent := by
  simp only [State.sectionChanges, List.any_eq_false, List.mem_finRange, Bool.and_eq_true, beq_iff_eq, bne_iff_ne,
    not_and, not_not, forall_const]

theorem State.walk_clearVehicleSection (s : State) (truck : Bool) :
    s.LeftWalk (s.clearVehicleSection truck) (s.sectionGone truck) ∧
    s.LeftWalkShown (s.clearVehicleSection truck) (s.sectionGone truck) := by
  have hframe := s.sectionReset_eq truck
  have hteach : (s.sectionReset truck).teach = s.teach := by rw [hframe]
  have hwalk := State.leftWalk_removeFromTeach hteach (s.sectionGone truck) (by rw [hframe])
  have hshown := State.leftWalkShown_removeFromTeach hteach (s.sectionGone truck) (by rw [hframe]) (by rw [hframe])
  rw [State.clearVehicleSection_eq]
  split
  · exact ⟨hwalk.congr rfl, hshown.congr rfl⟩
  · exact ⟨hwalk, hshown⟩

theorem State.marks_clearVehicleSection (s : State) (truck : Bool) : (s.clearVehicleSection truck).grant.marks =
    if s.sectionChanges truck = true then s.grant.marks.set (sectionOf truck) true else s.grant.marks := by
  have hkept : ((s.sectionReset truck).removeFromTeach (s.sectionGone truck) true .complete).grant.marks =
      s.grant.marks := by rw [State.removeFromTeach_eq, State.sectionReset_eq]
  rw [State.clearVehicleSection_eq]
  split
  · exact congrArg (PerSection.set · (sectionOf truck) true) hkept
  · exact hkept

theorem State.rest_clearVehicleSection (s : State) (truck : Bool) :
    (s.clearVehicleSection truck).context = (s.sectionAbsent truck).context ∧
    (s.clearVehicleSection truck).profiles = s.profiles ∧ (s.clearVehicleSection truck).settings = s.settings ∧
    (s.clearVehicleSection truck).stack = s.stack ∧ (s.clearVehicleSection truck).store = s.store := by
  have hreset : (s.sectionReset truck).context = (s.sectionAbsent truck).context := by
    unfold State.sectionReset; rw [State.resetAll_eq]
  rw [State.clearVehicleSection_eq, ← hreset]
  split
  · rw [State.mark_eq, State.removeFromTeach_eq, State.sectionReset_eq]; exact ⟨rfl, rfl, rfl, rfl, rfl⟩
  · rw [State.removeFromTeach_eq, State.sectionReset_eq]; exact ⟨rfl, rfl, rfl, rfl, rfl⟩

theorem exec_clearSection_served {r : Request} {s : State} {truck : Bool} (hserved : s.servesHolder r)
    (hsection : byteAt r 0 = some (if truck = true then 0 else 1)) : exec (.clearSection r) s = .next
      (if truck && s.grant.truckLock then s.refuse r codeClearSection .locked
      else (s.clearVehicleSection truck).refreshIdle.recomputeWarn.reply r codeClearSection .done) := by
  have hoperand : ((byteAt r 0).bind fun n => if n = 0 then some true else if n = 1 then some false else none) =
      some truck := by
    rw [hsection]; cases truck <;> rfl
  simp only [exec, execClearSection, hoperand]
  rw [State.edit_served codeClearSection _ _ hserved]

theorem writeAxle_result {r : Request} {s : State} {a : AxleNo} {m : Nat} (hserved : s.servesHolder r)
    (ha : byteAt r 0 = some a.val) (hm : byteAt r 1 = some m) {kind unladen laden : Option Nat} {k : AxleKind}
    (hkind : kind = (if m.testBit 0 = true then byteAt r 2 else none))
    (hunladen : unladen = (if m.testBit 1 = true then wordAt r 3 else none))
    (hladen : laden = (if m.testBit 2 = true then wordAt r 5 else none))
    (hnamed : (kind = none ∧ k = (s.axle a).kind) ∨ kind = some k.code)
    (hsent : kind ≠ none ∨ unladen ≠ none ∨ laden ≠ none)
    (hopen : k = (s.axle a).kind ∨ truckAxle a = false ∨ s.grant.truckLock = false) :
    exec (.writeAxle r) s = .next ((s.applyAxle (axleWriteOf r a m) k).answer r 0x31#8
      [[if ((unladen.any fun n => n < 100 || 1200 < n) || (laden.any fun n => n < 100 || 1200 < n)) = true
        then 1 else 0]]) := by
  have hk := kindFor_axleWriteOf (a := a) hkind hnamed
  have hclamps := (axleWriteOf r a m).clamps_eq
  have hfields : axleWriteOf r a m = { axle := a, kind := kind, unladen := unladen, laden := laden } := by
    rw [hkind, hunladen, hladen]; rfl
  rw [exec_writeAxle_applied hserved ha hm hk (by rw [hfields]; exact hsent) hopen, hclamps, hfields, reply_clamped]
  rfl

/-- Settles O44. -/
theorem axleWritesReachPositions : Obligations.AxleWritesReachPositions := by
  refine ⟨fun r s a m hserved ha hm => ⟨fun k hbit hk hgt => ?invalid, fun k hbit hk hle hnew htruck hlock => ?locked,
    fun kind unladen laden k x hkind hunladen hladen => ⟨fun hnone => ?blank, fun hnamed hsent hopen hx => ?written⟩⟩,
    fun r s truck hserved hsection => ⟨fun htruck hlock => ?clearLocked, fun hopen => ?cleared⟩⟩
  case invalid =>
    have hcode : (axleWriteOf r a m).kind = some k := (if_pos hbit).trans hk
    have hnone : (axleWriteOf r a m).kindFor (s.axle a).kind = none := by
      unfold AxleWrite.kindFor; rw [hcode]; exact ofCode_of_gt hgt
    rw [exec_writeAxle_invalid hserved ha hm hnone, State.refuse_of_ne s r _ (by decide)]
    rfl
  case locked =>
    have hcode : (axleWriteOf r a m).kind = some k := (if_pos hbit).trans hk
    obtain ⟨named, hnamed, rfl⟩ := ofCode_of_le hle
    rw [exec_writeAxle_locked hserved ha hm hcode hnamed (fun h => hnew (congrArg AxleKind.code h)) htruck hlock,
      State.refuse_of_ne s r _ (by decide)]
    rfl
  case blank =>
    obtain ⟨rfl, rfl, rfl⟩ := hnone
    exact exec_writeAxle_blank hserved ha hm hkind.symm hunladen.symm hladen.symm
  case written =>
    have hexec := writeAxle_result hserved ha hm hkind hunladen hladen hnamed hsent hopen
    obtain rfl : x = s.axleWritten (axleWriteOf r a m) k := by rw [hx, hunladen, hladen]; rfl
    obtain ⟨haxle, hothers⟩ := s.applyAxle_axle (axleWriteOf r a m) k
    obtain ⟨hmarks, hprofiles, hsettings, hstack, hstore, hstate⟩ := s.applyAxle_rest (axleWriteOf r a m) k
    refine ⟨s.applyAxle (axleWriteOf r a m) k, hexec, haxle, hothers, hmarks, hprofiles, hsettings, hstack, hstore,
      hstate, fun hsame => (State.applyAxle_sameKind hsame).1, fun hsame => (State.applyAxle_sameKind hsame).2,
      fun hnew => ⟨s.changeKind a k, ((s.changeKind a k).setAxle a (s.axleWritten (axleWriteOf r a m) k)).mark
        (if truckAxle a = true then .t else .l), s.changeKind_frame a k, ?_⟩⟩
    obtain ⟨hload, hambient, hlifted, hlowered, hcontext⟩ := s.context_changeKind_lowered a k
    obtain ⟨hcontext', hteach⟩ := State.applyAxle_context_teach (w := axleWriteOf r a m) hnew
    refine ⟨hload, hambient, hlifted, hlowered, hcontext, hcontext', hteach,
      fun p hp => State.pos_changeKind_other k hp, fun p hpa hexists hslot hsensor => ?_, fun gone hgone => ?_, rfl,
      State.applyAxle_newKind hnew⟩
    · have hgone : s.stopsExisting a k p = true := State.stopsExisting_eq_true.2 ⟨hpa, hexists, hslot⟩
      exact ⟨State.pos_changeKind_emptied hgone hsensor,
        State.pos_applyAxle_emptied (w := axleWriteOf r a m) hnew hgone hsensor⟩
    · obtain rfl := stopsExisting_of_decided hgone
      obtain ⟨hwalk, hshown⟩ := s.leftWalk_changeKind a k
      exact ⟨hwalk, hshown, fun p _ hstays => State.pos_changeKind_stays hstays, s.grant_changeKind a k⟩
  case clearLocked =>
    rw [exec_clearSection_served hserved hsection, htruck, hlock]
    exact congrArg Host.Outcome.next (s.refuse_of_ne (code := codeClearSection) r .locked (by decide))
  case cleared =>
    have hunlocked : ¬ (truck && s.grant.truckLock) = true := by
      obtain h | h := hopen <;> simp [h]
    obtain ⟨hcontext, hprofiles, hsettings, hstack, hstore⟩ := s.rest_clearVehicleSection truck
    obtain ⟨hwalk, hshown⟩ := s.walk_clearVehicleSection truck
    refine ⟨(s.clearVehicleSection truck).refreshIdle.recomputeWarn,
      by rw [exec_clearSection_served hserved hsection, if_neg hunlocked]; rfl, ?_⟩
    simp only [State.recomputeWarn_axle, State.refreshIdle_axle, State.recomputeWarn_pos, State.refreshIdle_pos,
      State.axle_congr (s.axles_clearVehicleSection truck), State.axle_sectionAbsent,
      State.pos_clearVehicleSection]
    refine ⟨fun a ha => if_pos ha, fun a ha => if_neg ha, fun p hp hassigned => ?_, fun p hp => if_neg hp, ?_,
      hwalk.congr ?_, hshown.congr ?_, ?_, ?_, ?_, ?_, ?_⟩
    · rw [if_pos hp, if_pos (Position.assigned_iff.2 (.inr hassigned))]
    · rw [State.recomputeWarn_context, State.refreshIdle_context]; exact hcontext
    · rw [State.recomputeWarn_teach, State.refreshIdle_teach]
    · rw [State.recomputeWarn_ports, State.refreshIdle_ports]
    · rw [State.recomputeWarn_grant, State.refreshIdle_grant_marks, State.marks_clearVehicleSection]
      by_cases hchanges : s.sectionChanges truck = true
      · rw [if_pos hchanges, if_neg fun h => Bool.false_ne_true
          ((State.sectionChanges_eq_false.2 h).symm.trans hchanges)]
        rfl
      · rw [if_neg hchanges, if_pos (State.sectionChanges_eq_false.1 (Bool.not_eq_true _ ▸ hchanges))]
    · rw [State.recomputeWarn_profiles, State.refreshIdle_profiles]; exact hprofiles
    · rw [State.recomputeWarn_settings, State.refreshIdle_settings]; exact hsettings
    · rw [State.recomputeWarn_stack, State.refreshIdle_stack]; exact hstack
    · rw [State.recomputeWarn_store, State.refreshIdle_store]; exact hstore

/-! ### A sample lands alike with and without a session (R136, R137, R138) -/

/-! Placing, testing and latching leave the session alone, and do not look at it. -/

theorem State.latchAll_teach_swap (s : State) (x : Option TeachSession) (c : AlarmCause) (ts : List (Pos × Kind)) :
    ({ s with teach := x } : State).latchAll c ts = { s.latchAll c ts with teach := x } := by
  induction ts generalizing s with
  | nil => rfl
  | cons t ts ih => exact ih (s.latchOne c t)

theorem State.evaluateSample_teach_swap (s : State) (x : Option TeachSession) (p : Pos) :
    ({ s with teach := x } : State).evaluateSample p = { s.evaluateSample p with teach := x } := by
  have htested : ({ s with teach := x } : State).sampleTested p = { s.sampleTested p with teach := x } := rfl
  rw [State.evaluateSample_eq_latchAll, State.evaluateSample_eq_latchAll, htested]
  exact State.latchAll_teach_swap ..

theorem State.accept_teach_swap (s : State) (x : Option TeachSession) (p : Pos) (d : Delivery) :
    ({ s with teach := x } : State).accept p d = { s.accept p d with teach := x } := by
  have hlatched : ({ s with teach := x } : State).sampleLatched p d = { s.sampleLatched p d with teach := x } :=
    State.evaluateSample_teach_swap (s.placed p d) x p
  rw [State.accept_eq_sampleLatched, State.accept_eq_sampleLatched, hlatched]
  split
  · rfl
  · rfl

theorem State.landNormally_teach_swap (s : State) (x : Option TeachSession) (p : Pos) (d : Delivery) :
    ({ s with teach := x } : State).landNormally p d = { s.landNormally p d with teach := x } := by
  by_cases hp : (s.pos p).inService
  · rw [State.landNormally_inService hp, State.landNormally_inService (s := { s with teach := x }) hp]
    exact s.accept_teach_swap x p d
  · rw [State.landNormally_notInService hp, State.landNormally_notInService (s := { s with teach := x }) hp]

/-- Where the position holds the sensor in the ready state, landing from it is landing there. -/
theorem State.landedFrom_eq {s ready : State} {d : Delivery} {p : Pos} (hholder : ready.holder d.id = some p)
    (hstale : stale (ready.pos p) d = false) (hteach : ready.teach = s.teach) (hwarn : ready.warn = s.warn) :
    s.LandedFrom ready d = ready.landNormally p d := by
  have hdeliver : ({ ready with teach := none } : State).deliver d =
      ({ ready.landNormally p d with teach := none } : State).recomputeWarn := by
    rw [State.deliver_landed (s := { ready with teach := none }) hholder hstale
      (State.sessionFor_eq_none.2 (.inr rfl)), State.landNormally_teach_swap]
  unfold State.LandedFrom
  rw [hdeliver, State.recomputeWarn_eq, State.landNormally_eq, ← hteach, ← hwarn]

/-- A sensor that no position holds lands in the Foreign Sensor List. -/
theorem State.landedFrom_foreign {s : State} {d : Delivery} (hholder : s.holder d.id = none) :
    s.LandedFrom s d = { s with foreign := foreignUpdate s.foreign d } := by
  have hdeliver := State.deliver_foreign (s := { s with teach := none }) hholder
    (State.sessionFor_eq_none.2 (.inr rfl))
  unfold State.LandedFrom
  rw [hdeliver]

/-! ### What a sample leaves at its position and at its twin partner -/

theorem State.state_accept (s : State) (p : Pos) (d : Delivery) : ((s.accept p d).pos p).state = .active := by
  have hat := s.pos_sampleLatched p p d
  rw [State.pos_placed, if_pos rfl, s.acceptedRecord_eq p d] at hat
  rw [State.pos_accept, hat]

/-- A twin partner that is not ACTIVE, and has no IMBALANCE, is left whole (R73). -/
theorem State.pos_accept_other {s : State} {p q : Pos} {d : Delivery} (hqp : q ≠ p) (hst : (s.pos q).state ≠ .active)
    (hbalanced : hasKind (s.pos q).live .imbalance = false) : (s.accept p d).pos q = s.pos q := by
  have hplaced : (s.placed p d).pos q = s.pos q := by rw [State.pos_placed, if_neg hqp]
  have hdrop : dropKind (s.pos q).live .imbalance = (s.pos q).live := kindMask_ext fun k => by
    rw [hasKind_dropKind]
    by_cases hk : k = .imbalance
    · rw [hk, hbalanced]; rfl
    · rw [decide_eq_true hk, Bool.and_true]
  have htest : (s.placed p d).testedLive q imbalanceOnly = (s.pos q).live := by
    rw [State.testedLive_imbalance_inactive (by rw [hplaced]; exact hst), hplaced, hdrop]
  have htested : ((s.placed p d).sampleTested p).pos q = s.pos q := by
    rw [State.pos_sampleTested, if_neg hqp, htest, hplaced, ite_self]
  rw [State.pos_accept, State.pos_sampleLatched_of_tested hqp htested]

/-! ### The walk's advance (R139, R142, R143) -/

section Advance

variable {s landed : State} {t : TeachSession} {h : Pos} {rest : List Pos} {id : SensorId} (n : Nat)

theorem State.walkShown_advanceTeach (hid : (landed.pos h).sensor = some id) :
    landed.WalkShown (landed.advanceTeach t h rest n).recomputeWarn t h rest id n := by
  refine ⟨_, rfl, congrArg State.recomputeWarn ?_⟩
  unfold State.advanceTeach
  rw [hid]
  cases rest with
  | nil => rfl
  | cons next rest => rfl

theorem State.walkAdvanced_advanceTeach (htick : landed.tick = s.tick)
    (hidle : landed.grant.idleTimer = s.grant.idleTimer) :
    s.WalkAdvanced t h rest (landed.advanceTeach t h rest n).recomputeWarn := by
  unfold State.WalkAdvanced
  rw [State.recomputeWarn_grant, State.recomputeWarn_teach, ← htick, ← hidle]
  unfold State.advanceTeach
  cases rest with
  | nil => exact ⟨fun hne => absurd rfl hne, fun _ => ⟨rfl, rfl⟩⟩
  | cons next rest => exact ⟨fun _ => ⟨rfl, rfl⟩, nofun⟩

theorem State.marks_advanceTeach : (landed.advanceTeach t h rest n).grant.marks = landed.grant.marks := by
  rw [State.advanceTeach_eq]

theorem State.pos_advanceTeach (p : Pos) : (landed.advanceTeach t h rest n).pos p = landed.pos p :=
  State.pos_congr (by rw [State.advanceTeach_eq]) p

end Advance

/-! ### The five cases of a trigger (R135 to R139) -/

section Cases

variable {s : State} {t : TeachSession} {d : Delivery} {h q : Pos} {rest : List Pos} (hqueue : t.queue = h :: rest)
include hqueue

theorem State.teachTrigger_confirm (hholder : s.holder d.id = some h) :
    s.teachTrigger t d = s.teachConfirm t h rest d := by
  unfold State.teachTrigger
  rw [hqueue, hholder]
  exact if_pos rfl

/-- The sensor of a taught position, and one that the truck lock shields, move nothing (R137, R157). -/
theorem State.teachTrigger_ignored (hholder : s.holder d.id = some q) (hne : q ≠ h)
    (hignored : q ∈ t.taught ∨ (s.grant.truckLock = true ∧ (inTruck q = true ∨ inTruck h = true))) :
    s.teachTrigger t d = (s.landNormally q d).teachIgnored (if q ∈ t.taught then 0x74#8 else 0x75#8) d.id
      (if q ∈ t.taught ∨ inTruck q = true then q else h) h := by
  unfold State.teachTrigger
  rw [hqueue, hholder]; dsimp only
  rw [if_neg hne]
  by_cases htaught : q ∈ t.taught
  · rw [if_pos (List.contains_iff_mem.2 htaught), if_pos htaught, if_pos (.inl htaught)]
    rfl
  · obtain ⟨hlock, htruck⟩ := hignored.resolve_left htaught
    have hshielded : (s.grant.truckLock && (inTruck q || inTruck h)) = true := by
      rw [hlock, Bool.true_and, Bool.or_eq_true]; exact htruck
    rw [if_neg (fun hc => htaught (List.contains_iff_mem.1 hc)), if_pos hshielded, if_neg htaught]
    simp only [htaught, false_or]
    rfl

theorem State.teachTrigger_moves (hholder : s.holder d.id = some q) (hne : q ≠ h) (htaught : q ∉ t.taught)
    (hopen : s.grant.truckLock = false ∨ (inTruck q = false ∧ inTruck h = false)) :
    s.teachTrigger t d = s.teachAssign t h rest d (some q) := by
  have hunlocked : ¬ (s.grant.truckLock && (inTruck q || inTruck h)) = true := by
    obtain hlock | ⟨hq, hh⟩ := hopen
    · simp [hlock]
    · simp [hq, hh]
  unfold State.teachTrigger
  rw [hqueue, hholder]; dsimp only
  rw [if_neg hne, if_neg (fun hc => htaught (List.contains_iff_mem.1 hc)), if_neg hunlocked]

theorem State.teachTrigger_foreignLocked (hholder : s.holder d.id = none) (hlock : s.grant.truckLock = true)
    (htruck : inTruck h = true) : s.teachTrigger t d =
      ({ s with foreign := foreignUpdate s.foreign d } : State).teachIgnored 0x75#8 d.id h h := by
  unfold State.teachTrigger
  rw [hqueue, hholder]; dsimp only
  rw [hlock, htruck]
  rfl

theorem State.teachTrigger_assigns (hholder : s.holder d.id = none)
    (hopen : s.grant.truckLock = false ∨ inTruck h = false) :
    s.teachTrigger t d = s.teachAssign t h rest d none := by
  have hunlocked : ¬ (s.grant.truckLock && inTruck h) = true := by
    obtain hlock | hh := hopen
    · simp [hlock]
    · simp [hh]
  unfold State.teachTrigger
  rw [hqueue, hholder]
  exact if_neg hunlocked

end Cases

/-! The head made ready by a restored hold (R53, R136). -/

theorem stale_congr {x y : Position} (hsample : x.sample = y.sample) (d : Delivery) : stale x d = stale y d := by
  unfold stale; rw [hsample]

theorem State.fallMissing_at (s : State) (p : Pos) : ((s.fallMissing p).pos p).state = .missing ∧
    ((s.fallMissing p).pos p).sample = (s.pos p).sample := by
  rw [State.fallMissing_eq_latchAll, (State.pos_latchAll ..).1, State.pos_dropPartnerImbalance,
    if_neg (partner_ne p).symm, State.pos_setPos_same]
  exact ⟨rfl, rfl⟩

/-- A hold restored leaves a position in service with its last sample. -/
theorem State.restoreHold_at {s : State} {p : Pos} (hx : (s.pos p).Lawful) (hheld : (s.pos p).state = .held) :
    ((s.restoreHold p).pos p).inService ∧ ((s.restoreHold p).pos p).sample = (s.pos p).sample := by
  have hbefore : (s.pos p).beforeHold.isSome = true := hx.held.2 hheld
  have hrestored : ∀ st, st = .waiting ∨ st = .active → (s.pos p).beforeHold = some st →
      ((s.restoreHold p).pos p).inService ∧ ((s.restoreHold p).pos p).sample = (s.pos p).sample := by
    intro st hst hb
    rw [State.restoreHold_some hb (by obtain rfl | rfl := hst <;> decide)]
    split
    · obtain ⟨hmissing, hsample⟩ := (s.setPos p (s.restoredTo (s.pos p) st)).fallMissing_at p
      exact ⟨.inr (.inr hmissing), hsample.trans (by rw [State.pos_setPos_same]; rfl)⟩
    · rw [State.pos_setPos_same]
      exact ⟨hst.imp_right .inl, rfl⟩
  obtain hb | hb | hb | hb := hx.before
  · rw [hb] at hbefore; cases hbefore
  · exact hrestored _ (.inl rfl) hb
  · exact hrestored _ (.inr rfl) hb
  · rw [State.restoreHold_missing hb, (State.pos_latchAll ..).1, State.pos_setPos_same]
    exact ⟨.inr (.inr rfl), rfl⟩

/-- The part with the head's hold, if there is one, restored. -/
def State.headRestored (s : State) (h : Pos) : State := if (s.pos h).state = .held then s.restoreHold h else s

theorem State.headRestored_eq (s : State) (h : Pos) : s.headRestored h =
    { s with positions := (s.headRestored h).positions, ports := (s.headRestored h).ports } := by
  unfold State.headRestored
  split
  · exact s.restoreHold_eq h
  · rfl

theorem State.teach_headRestored (s : State) (h : Pos) : (s.headRestored h).teach = s.teach := by
  rw [State.headRestored_eq]

theorem State.warn_headRestored (s : State) (h : Pos) : (s.headRestored h).warn = s.warn := by
  rw [State.headRestored_eq]

theorem State.sensors_headRestored (s : State) (h : Pos) : (s.headRestored h).sensors = s.sensors := by
  unfold State.headRestored
  split
  · exact s.sensors_restoreHold h
  · rfl

theorem State.headRestored_at {s : State} {h : Pos} (hx : (s.pos h).Lawful) (hassigned : (s.pos h).state ≠ .unassigned)
    (hattached : (s.pos h).state ≠ .detached) : ((s.headRestored h).pos h).inService ∧
      ((s.headRestored h).pos h).sample = (s.pos h).sample := by
  unfold State.headRestored
  split
  · next hheld => exact State.restoreHold_at hx hheld
  · next hnotHeld =>
    refine ⟨?_, rfl⟩
    unfold Position.inService
    cases hst : (s.pos h).state with
    | unassigned => exact absurd hst hassigned
    | waiting => exact .inl rfl
    | active => exact .inr (.inl rfl)
    | missing => exact .inr (.inr rfl)
    | held => exact absurd hst hnotHeld
    | detached => exact absurd hst hattached

theorem State.holder_of_unique {s : State} {id : SensorId} {p : Pos} (hp : s.sensors p = some id)
    (hunique : ∀ q, s.sensors q = some id → q = p) : s.holder id = some p := by
  cases hq : s.holder id with
  | none => exact absurd hp (State.holder_none.1 hq p)
  | some q => rw [hunique q (State.holder_some hq)]

/-! The head made ready for another sensor (R36, R138, R150). -/

/-- The part with sensor `id` moved to `h`, from `q` or from nowhere. -/
def State.readyFor (s : State) (h : Pos) (q : Option Pos) (id : SensorId) : State :=
  State.teachReset (match q with
    | some k => s.teachReset k none
    | none => s) h (some id)

theorem State.pos_teachReset (s : State) (p k : Pos) (id : Option SensorId) : (s.teachReset p id).pos k =
    if k = p then loadedPosition p id s.trailerPresent s.tick
    else if k = partner p then (s.pos k).withoutImbalance else s.pos k := s.pos_recordReset p k id

theorem State.tableFrame_trans {s u v : State}
    (hu : u = { s with positions := u.positions, foreign := u.foreign, grant := u.grant })
    (hv : v = { u with positions := v.positions, foreign := v.foreign, grant := v.grant }) :
    v = { s with positions := v.positions, foreign := v.foreign, grant := v.grant } := by
  rw [hv, hu]

theorem State.readyFor_frame (s : State) (h : Pos) (q : Option Pos) (id : SensorId) : s.readyFor h q id =
    { s with
      positions := (s.readyFor h q id).positions, foreign := (s.readyFor h q id).foreign
      grant := (s.readyFor h q id).grant } := by
  have hreset : ∀ (u : State) (p : Pos) (x : Option SensorId), u.teachReset p x = { u with
      positions := (u.teachReset p x).positions, foreign := (u.teachReset p x).foreign
      grant := (u.teachReset p x).grant } := fun u p x => rfl
  cases q with
  | none => exact hreset s h (some id)
  | some k => exact State.tableFrame_trans (hreset s k none) (hreset _ h (some id))

theorem State.pos_readyFor_head {s : State} {h : Pos} (hcoupled : inTruck h = true ∨ s.trailerPresent = true)
    (q : Option Pos) (id : SensorId) : (s.readyFor h q id).pos h = { Position.empty with
      sensor := some id, state := .waiting, deadline := some (s.tick + 6000#24) } := by
  have hloaded : (s.readyFor h q id).pos h = loadedPosition h (some id) s.trailerPresent s.tick := by
    unfold State.readyFor
    rw [State.pos_teachReset, if_pos rfl]
    cases q with
    | none => rfl
    | some k => rfl
  rw [hloaded, loadedPosition_some, if_pos hcoupled, if_pos hcoupled]

theorem State.pos_readyFor_left (s : State) {h k : Pos} (hne : k ≠ h) (id : SensorId) :
    (s.readyFor h (some k) id).pos k = Position.empty := by
  unfold State.readyFor
  rw [State.pos_teachReset, if_neg hne, State.pos_teachReset, if_pos rfl, loadedPosition_none,
    Position.empty_withoutImbalance, ite_self]

theorem eq_partner_comm {p q : Pos} : p = partner q ↔ q = partner p :=
  ⟨fun h => by rw [h, partner_partner], fun h => by rw [h, partner_partner]⟩

theorem State.pos_readyFor_other (s : State) {h p : Pos} {q : Option Pos} (hph : p ≠ h) (hpq : q ≠ some p)
    (id : SensorId) : (s.readyFor h q id).pos p = { s.pos p with
      live := if p = partner h ∨ q = some (partner p) then (s.pos p).live &&& ~~~ kindMask .imbalance
        else (s.pos p).live } := by
  unfold State.readyFor
  rw [State.pos_teachReset, if_neg hph]
  cases q with
  | none =>
    simp only [reduceCtorEq, or_false]
    split
    · rfl
    · rfl
  | some k =>
    have hpk : p ≠ k := fun e => hpq (by rw [e])
    rw [State.pos_teachReset, if_neg hpk]
    by_cases hp : p = partner h
    · have htwin : p = partner h ∨ some k = some (partner p) := .inl hp
      rw [if_pos hp, if_pos htwin]
      split
      · rw [Position.withoutImbalance_withoutImbalance]; rfl
      · rfl
    · by_cases hk : p = partner k
      · have htwin : p = partner h ∨ some k = some (partner p) := .inr (congrArg some (eq_partner_comm.1 hk))
        rw [if_neg hp, if_pos hk, if_pos htwin]; rfl
      · have halone : ¬ (p = partner h ∨ some k = some (partner p)) := fun htwin =>
          htwin.elim hp fun e => hk (eq_partner_comm.2 (Option.some.inj e))
        rw [if_neg hp, if_neg hk, if_neg halone]

/-! ### The walk moved past its head (R136, R138, R139) -/

/-- The part once the sample has landed on the head and the walk has moved past it. -/
def State.walked (ready : State) (t : TeachSession) (h : Pos) (rest : List Pos) (d : Delivery) (n : Nat) : State :=
  ((ready.landNormally h d).advanceTeach t h rest n).recomputeWarn

theorem State.teachConfirm_walked (s : State) (t : TeachSession) (h : Pos) (rest : List Pos) (d : Delivery) :
    (s.teachConfirm t h rest d).recomputeWarn = (s.headRestored h).walked t h rest d 1 := rfl

theorem State.teachAssign_walked (s : State) (t : TeachSession) (h : Pos) (rest : List Pos) (d : Delivery)
    (q : Option Pos) : (s.teachAssign t h rest d q).recomputeWarn =
      (s.readyFor h q d.id).walked t h rest d (if q.isSome then 4 else 5) := rfl

section Walked

variable {s ready : State} {t : TeachSession} {h : Pos} {rest : List Pos} {d : Delivery} (n : Nat)

theorem State.walkAdvanced_walked (htick : ready.tick = s.tick) (hidle : ready.grant.idleTimer = s.grant.idleTimer) :
    s.WalkAdvanced t h rest (ready.walked t h rest d n) :=
  State.walkAdvanced_advanceTeach n (by rw [State.landNormally_eq]; exact htick)
    (by rw [State.landNormally_eq]; exact hidle)

theorem State.sensors_walked : (ready.walked t h rest d n).sensors = ready.sensors := by
  unfold State.walked
  rw [State.sensors_recomputeWarn, State.sensors_advanceTeach, State.sensors_landNormally]

theorem State.foreign_walked : (ready.walked t h rest d n).foreign = ready.foreign := by
  unfold State.walked
  rw [State.recomputeWarn_foreign, State.foreign_advanceTeach, State.foreign_landNormally]

theorem State.marks_walked : (ready.walked t h rest d n).grant.marks = ready.grant.marks := by
  unfold State.walked
  rw [State.recomputeWarn_grant, State.marks_advanceTeach, State.landNormally_eq]

theorem State.pos_walked (hin : (ready.pos h).inService) (p : Pos) :
    (ready.walked t h rest d n).pos p = (ready.accept h d).pos p := by
  unfold State.walked
  rw [State.recomputeWarn_pos, State.pos_advanceTeach, State.landNormally_inService hin]

theorem State.state_walked (hin : (ready.pos h).inService) : ((ready.walked t h rest d n).pos h).state = .active := by
  rw [State.pos_walked n hin]; exact ready.state_accept h d

theorem State.walkShown_walked (hholder : ready.holder d.id = some h) (hstale : stale (ready.pos h) d = false)
    (hteach : ready.teach = s.teach) (hwarn : ready.warn = s.warn) :
    (s.LandedFrom ready d).WalkShown (ready.walked t h rest d n) t h rest d.id n := by
  rw [State.landedFrom_eq hholder hstale hteach hwarn]
  refine State.walkShown_advanceTeach n ?_
  exact (congrFun (ready.sensors_landNormally h d) h).trans (State.holder_some hholder)

end Walked

/-! The head confirmed by its own sensor (R136). -/

section Confirmed

variable {s : State} {h : Pos} {d : Delivery}

theorem State.holder_headRestored (hids : s.IdentityLaw) (hsensor : (s.pos h).sensor = some d.id) :
    (s.headRestored h).holder d.id = some h := by
  have hsensors := s.sensors_headRestored h
  exact State.holder_of_unique ((congrFun hsensors h).trans hsensor) fun q hq =>
    hids.distinct q h d.id ((congrFun hsensors q).symm.trans hq) hsensor

theorem State.stale_headRestored (hsample : ((s.headRestored h).pos h).sample = (s.pos h).sample)
    (hstale : stale (s.pos h) d = false) : stale ((s.headRestored h).pos h) d = false :=
  (stale_congr hsample d).trans hstale

/-- A position of the walk that has a sensor is neither UNASSIGNED nor DETACHED (R34, R129). -/
theorem State.PositionLaw.walk_state (hpos : s.PositionLaw) (hcoupled : inTruck h = true ∨ s.trailerPresent = true)
    {id : SensorId} (hsensor : (s.pos h).sensor = some id) :
    (s.pos h).state ≠ .unassigned ∧ (s.pos h).state ≠ .detached := by
  refine ⟨fun hst => ?_, fun hst => ?_⟩
  · rw [(hpos.lawful h).unassigned hst] at hsensor
    cases hsensor
  · obtain ⟨htrailer, -, habsent⟩ := (hpos.detached h).1 hst
    obtain htruck | hpresent := hcoupled
    · rw [htruck] at htrailer; cases htrailer
    · rw [hpresent] at habsent; cases habsent

end Confirmed

/-! The head with another position's sensor, or a foreign one (R138). -/

/-- The head is made ready by its record reset, after that of the position the sensor leaves. -/
theorem State.readyFor_ready {s : State} {h : Pos} {q : Option Pos}
    (hcoupled : inTruck h = true ∨ s.trailerPresent = true) (hne : q ≠ some h) (id : SensorId) :
    s.ReadyForSensor (s.readyFor h q id) h q id where
  frame := s.readyFor_frame h q id
  head := State.pos_readyFor_head hcoupled q id
  left := by
    rintro p rfl
    exact s.pos_readyFor_left (fun e => hne (congrArg some e)) id
  others _ hph hpq := s.pos_readyFor_other hph hpq id
  foreign := by
    have hwithout : foreignWithout s.foreign (some id) = s.foreign.filter fun e => e.id != id := by
      rw [foreignWithout_eq]
      exact List.filter_congr fun e _ => by simp only [Option.some.injEq, ne_eq, decide_not]; rfl
    rw [← hwithout]
    cases q with
    | none => rfl
    | some k => exact congrArg (foreignWithout · (some id)) (foreignWithout_none s.foreign)
  grant := by
    cases q with
    | none => rfl
    | some k => rfl

namespace State.ReadyForSensor

variable {s ready : State} {h : Pos} {q : Option Pos} {t : TeachSession} {rest : List Pos} {d : Delivery} (n : Nat)
  (hready : s.ReadyForSensor ready h q d.id)
include hready

theorem sensor_other {p : Pos} (hph : p ≠ h) (hpq : q ≠ some p) : (ready.pos p).sensor = (s.pos p).sensor := by
  rw [hready.others p hph hpq]

theorem holder (hunique : ∀ p, (s.pos p).sensor = some d.id → q = some p) : ready.holder d.id = some h := by
  refine State.holder_of_unique (congrArg Position.sensor hready.head) fun p hp => ?_
  by_contra hph
  by_cases hpq : q = some p
  · have hempty : (ready.pos p).sensor = none := congrArg Position.sensor (hready.left p hpq)
    exact absurd (hempty.symm.trans hp) nofun
  · exact hpq (hunique p ((hready.sensor_other hph hpq).symm.trans hp))

theorem inService : (ready.pos h).inService := .inl (congrArg Position.state hready.head)

theorem walkAdvanced : s.WalkAdvanced t h rest (ready.walked t h rest d n) :=
  State.walkAdvanced_walked n (by rw [hready.frame]) (by rw [hready.grant])

theorem walked_sensor_head : ((ready.walked t h rest d n).pos h).sensor = some d.id :=
  (congrFun (State.sensors_walked n) h).trans (congrArg Position.sensor hready.head)

theorem walked_sensor_other {p : Pos} (hph : p ≠ h) (hpq : q ≠ some p) :
    ((ready.walked t h rest d n).pos p).sensor = (s.pos p).sensor :=
  (congrFun (State.sensors_walked n) p).trans (hready.sensor_other hph hpq)

/-- The position that the sensor left stays empty as the sample lands. -/
theorem walked_left {k : Pos} (hq : q = some k) (hkh : k ≠ h) :
    (ready.walked t h rest d n).pos k = Position.empty := by
  have hempty : ready.pos k = Position.empty := hready.left k hq
  rw [State.pos_walked n hready.inService, State.pos_accept_other hkh (by rw [hempty]; decide)
    (by rw [hempty]; decide), hempty]

theorem walkShown (hunique : ∀ p, (s.pos p).sensor = some d.id → q = some p) :
    (s.LandedFrom ready d).WalkShown (ready.walked t h rest d n) t h rest d.id n :=
  State.walkShown_walked n (hready.holder hunique) (by rw [hready.head]; rfl) (by rw [hready.frame])
    (by rw [hready.frame])

end State.ReadyForSensor

/-! ### The five cases of a trigger, settled (R135) -/

/-- A sensor heard in the walk that moves nothing: its notice beside the landed sample (R137). -/
theorem State.teachIgnored_recomputeWarn (s : State) (code : Byte) (id : SensorId) (p h : Pos) :
    ((s.teachIgnored code id p h).recomputeWarn.teach = s.teach ∧
      (s.teachIgnored code id p h).recomputeWarn.positions = s.positions) ∧
      (s.teachIgnored code id p h).recomputeWarn.grant = s.grant ∧
      (s.teachIgnored code id p h).recomputeWarn.foreign = s.foreign := by
  rw [State.recomputeWarn_eq]
  exact ⟨⟨rfl, rfl⟩, rfl, rfl⟩

/-- Settles O49. -/
theorem teachTriggerCases : Obligations.TeachTriggerCases := by
  intro s u d t h rest hids hpos hwalk hteach hqueue hkind hfresh hu
  have hcoupled : inTruck h = true ∨ s.trailerPresent = true :=
    (hwalk.session t hteach).coupled h (by rw [hqueue]; exact List.mem_cons_self)
  have htaken : (s.teachTrigger t d).recomputeWarn = u :=
    (State.deliver_taught (State.sessionFor_eq_some.2 ⟨hkind, hteach⟩)
      fun p hp => hfresh p (State.holder_some hp)).symm.trans hu
  refine ⟨fun hsensor => ?confirmed, fun q hne hsensor hignored => ?ignored,
    fun q hne hsensor htaught hopen => ?moved, fun hnone hlock htruck => ?foreignLocked,
    fun hnone hopen => ?assigned⟩
  case confirmed =>
    obtain ⟨hassigned, hattached⟩ := hpos.walk_state hcoupled hsensor
    obtain ⟨hin, hsample⟩ := State.headRestored_at (hpos.lawful h) hassigned hattached
    have hframe := s.headRestored_eq h
    rw [State.teachTrigger_confirm hqueue (hids.holder_eq hsensor), State.teachConfirm_walked] at htaken
    subst htaken
    exact ⟨State.walkAdvanced_walked 1 (by rw [hframe]) (by rw [hframe]),
      fun p => congrFun ((State.sensors_walked 1).trans (s.sensors_headRestored h)) p,
      State.state_walked 1 hin, (State.marks_walked 1).trans (by rw [hframe]),
      (State.foreign_walked 1).trans (by rw [hframe]),
      State.walkShown_walked 1 (State.holder_headRestored hids hsensor)
        (State.stale_headRestored hsample (hfresh h hsensor)) (s.teach_headRestored h) (s.warn_headRestored h)⟩
  case ignored =>
    have hholder : s.holder d.id = some q := hids.holder_eq hsensor
    have hlanded : s.LandedFrom s d = s.landNormally q d :=
      State.landedFrom_eq hholder (hfresh q hsensor) rfl rfl
    have hframe := s.landNormally_eq q d
    rw [State.teachTrigger_ignored hqueue hholder hne hignored] at htaken
    subst htaken
    obtain ⟨⟨hteach', hpositions⟩, hgrant, hforeign⟩ := (s.landNormally q d).teachIgnored_recomputeWarn
      (if q ∈ t.taught then 0x74#8 else 0x75#8) d.id (if q ∈ t.taught ∨ inTruck q = true then q else h) h
    refine ⟨hteach'.trans (by rw [hframe]), fun p => ?_, hgrant.trans (by rw [hframe]),
      hforeign.trans (by rw [hframe]), by rw [hlanded]; rfl⟩
    exact congrFun ((State.sensors_congr hpositions).trans (s.sensors_landNormally q d)) p
  case moved =>
    have hother : some q ≠ some h := fun e => hne (Option.some.inj e)
    have hunique : ∀ p, (s.pos p).sensor = some d.id → some q = some p := fun p hp =>
      congrArg some (hids.distinct q p d.id hsensor hp)
    have hready := State.readyFor_ready hcoupled hother d.id
    rw [State.teachTrigger_moves hqueue (hids.holder_eq hsensor) hne htaught hopen, State.teachAssign_walked]
      at htaken
    subst htaken
    exact ⟨hready.walkAdvanced 4, hready.walked_sensor_head 4, State.state_walked 4 hready.inService,
      hready.walked_left 4 rfl hne,
      fun p hph hpq => hready.walked_sensor_other 4 hph fun e => hpq (Option.some.inj e).symm,
      (State.marks_walked 4).trans (by rw [hready.grant]), _, hready, hready.walkShown 4 hunique⟩
  case foreignLocked =>
    have hholder : s.holder d.id = none := State.holder_none.2 hnone
    rw [State.teachTrigger_foreignLocked hqueue hholder hlock htruck] at htaken
    subst htaken
    obtain ⟨⟨hteach', hpositions⟩, hgrant, -⟩ := State.teachIgnored_recomputeWarn
      { s with foreign := foreignUpdate s.foreign d } 0x75#8 d.id h h
    exact ⟨hteach', hpositions, hgrant, by rw [State.landedFrom_foreign hholder]; rfl⟩
  case assigned =>
    have hholder : s.holder d.id = none := State.holder_none.2 hnone
    have hready := State.readyFor_ready (q := none) hcoupled nofun d.id
    rw [State.teachTrigger_assigns hqueue hholder hopen, State.teachAssign_walked] at htaken
    subst htaken
    have hforgotten : ∀ e ∈ (s.readyFor h none d.id).foreign, e.id ≠ d.id := fun e he => by
      rw [hready.foreign] at he
      exact bne_iff_ne.1 (List.mem_filter.1 he).2
    exact ⟨hready.walkAdvanced 5, hready.walked_sensor_head 5, State.state_walked 5 hready.inService,
      fun p hph => hready.walked_sensor_other 5 hph nofun, by rw [State.foreign_walked]; exact hforgotten,
      (State.marks_walked 5).trans (by rw [hready.grant]), _, hready,
      hready.walkShown 5 fun p hp => absurd hp (hnone p)⟩

end Sys2Proof.Machine
end

section
/-! PROOF. Figures, re-evaluation and the requests that set what figures are drawn from: the pressure, target, leak and
twin figures, one transition and one re-evaluation, how every request is judged, VEHICLE STATE and WRITE SETTINGS: the
statements O16, O17, O18, O19, O21, O33, O42, O46. -/

namespace Sys2Proof.Machine

/-! ### The cold-equivalent pressure (R65) -/

/-- The quotient of R65 before the ambient is taken off: Pabs × (Tref + 273) / (T + 273), rounded half up. -/
def absoluteAtTref (pabs : Nat) (t tref : Int) : Int :=
  (2 * ((pabs : Int) * (tref + 273)) + (t + 273)).fdiv (2 * (t + 273))

theorem coldPressure_eq_clamped (pabs : Nat) (t tref : Int) (ambient : Nat) :
    (coldPressure pabs t tref ambient : Int) = max 0 (min 1500 (absoluteAtTref pabs t tref - ambient)) :=
  Int.toNat_of_nonneg (Int.le_max_left _ _)

/-- The quotient is the floor that R65 names. -/
theorem absoluteAtTref_floor (pabs : Nat) {t : Int} (tref : Int) (ht : 0 < t + 273) :
    2 * (t + 273) * absoluteAtTref pabs t tref ≤ 2 * ((pabs : Int) * (tref + 273)) + (t + 273) ∧
      2 * ((pabs : Int) * (tref + 273)) + (t + 273) < 2 * (t + 273) * (absoluteAtTref pabs t tref + 1) := by
  have hd : 0 < 2 * (t + 273) := by omega
  exact ⟨Int.mul_fdiv_self_le hd, (Int.lt_fdiv_add_one_mul_self _ hd).trans_eq (Int.mul_comm _ _)⟩

/-- At the reference temperature nothing is to be corrected: half the divisor is lost in the floor. -/
theorem absoluteAtTref_self (pabs : Nat) {t : Int} (ht : 0 < t + 273) : absoluteAtTref pabs t t = pabs := by
  obtain ⟨hle, hlt⟩ := absoluteAtTref_floor pabs t ht
  have hupper : absoluteAtTref pabs t t < pabs + 1 := by nlinarith
  have hlower : (pabs : Int) < absoluteAtTref pabs t t + 1 := by nlinarith
  omega

/-- Settles O16. -/
theorem coldPressureIsFormula : Obligations.ColdPressureIsFormula := by
  intro pabs t tref ambient ht
  have hpos : 0 < t + 273 := by omega
  obtain ⟨hle, hlt⟩ := absoluteAtTref_floor pabs tref hpos
  refine ⟨⟨_, hle, hlt, coldPressure_eq_clamped pabs t tref ambient⟩, fun hsame => ?_⟩
  rw [coldPressure_eq_clamped, ← hsame, absoluteAtTref_self pabs hpos]

/-! ### Targets and thresholds (R67, R68) -/

theorem State.target_lifted {s : State} {a : AxleNo} (h : s.lifted a = true) : s.target a = (s.axle a).unladen :=
  if_pos h

theorem State.target_loaded {s : State} {a : AxleNo} (h : s.lifted a = false) : s.target a = (s.axle a).unladen +
    ((((s.axle a).laden : Int) - (s.axle a).unladen) * s.context.load).tdiv 100 :=
  if_neg (by rw [h]; exact nofun)

/-- A hundredth of up to 100 times a difference lies between 0 and the difference, whatever its sign. -/
theorem tdiv_percent_between (d : Int) {load : Nat} (h : load ≤ 100) :
    min 0 d ≤ (d * load).tdiv 100 ∧ (d * load).tdiv 100 ≤ max 0 d := by
  have hwhole : (d * 100).tdiv 100 = d := Int.mul_tdiv_cancel d (by decide)
  obtain hd | hd := Int.le_total 0 d
  · have hnonneg : 0 ≤ (d * load).tdiv 100 := Int.tdiv_nonneg (by positivity) (by decide)
    have hle : (d * load).tdiv 100 ≤ (d * 100).tdiv 100 := Int.tdiv_le_tdiv (by decide) (by nlinarith)
    omega
  · have hnonpos : (d * load).tdiv 100 ≤ (0 : Int).tdiv 100 := Int.tdiv_le_tdiv (by decide) (by nlinarith)
    have hle : (d * 100).tdiv 100 ≤ (d * load).tdiv 100 := Int.tdiv_le_tdiv (by decide) (by nlinarith)
    rw [Int.zero_tdiv] at hnonpos
    omega

theorem State.target_between (s : State) (a : AxleNo) (h : s.context.load ≤ 100) :
    min ((s.axle a).unladen : Int) (s.axle a).laden ≤ s.target a ∧
      s.target a ≤ max ((s.axle a).unladen : Int) (s.axle a).laden := by
  cases hlifted : s.lifted a with
  | true => rw [State.target_lifted hlifted]; exact ⟨Int.min_le_left _ _, Int.le_max_left _ _⟩
  | false =>
    have hbetween := tdiv_percent_between (((s.axle a).laden : Int) - (s.axle a).unladen) h
    rw [State.target_loaded hlifted]
    omega

/-- The per-mille values of a lawful profile lie on their sides of 1000, far enough that the floor keeps them apart
from a target of 100 kPa or more. -/
theorem thresholds_ordered {target : Int} {pr : Profile} (htarget : 100 ≤ target) (hpr : pr.Lawful)
    (hcross : pr.uc < pr.uw) :
    (thresholds target pr).lowCritical ≤ (thresholds target pr).lowWarning ∧
      (thresholds target pr).lowWarning < target ∧ target < (thresholds target pr).highWarning := by
  have hnonneg : 0 ≤ target := by omega
  obtain ⟨-, huw⟩ := hpr.uw
  obtain ⟨how, -⟩ := hpr.ow
  have hmono : target * pr.uc ≤ target * pr.uw := Int.mul_le_mul_of_nonneg_left (by omega) hnonneg
  have hlow : target * pr.uw ≤ target * 990 := Int.mul_le_mul_of_nonneg_left (by omega) hnonneg
  have hhigh : target * 1010 ≤ target * pr.ow := Int.mul_le_mul_of_nonneg_left (by omega) hnonneg
  simp only [thresholds, Int.fdiv_eq_ediv_of_nonneg _ (show (0 : Int) ≤ 1000 by decide)]
  omega

/-- Settles O17. -/
theorem targetAndThresholds : Obligations.TargetAndThresholds := by
  refine ⟨fun s a => ⟨State.target_lifted, State.target_loaded, fun hlifted hload => ?empty,
    fun hlifted hload => ?full, s.target_between a⟩,
    fun target pr htarget hpr hcross => ⟨rfl, rfl, rfl, thresholds_ordered htarget hpr hcross⟩⟩
  case empty =>
    rw [State.target_loaded hlifted, hload]
    simp
  case full =>
    rw [State.target_loaded hlifted, hload, Nat.cast_ofNat, Int.mul_tdiv_cancel _ (by decide)]
    omega

/-! ### The leak history and the leak rate (R69, R70) -/

theorem leakAppend_nil (pc : Nat) (t : Tick) : leakAppend [] pc t = [{ pc := pc, tick := keep t }] := rfl

/-- A history too old is dropped as a new pair comes. -/
theorem leakAppend_afresh {h : List LeakEntry} {newest : LeakEntry} (pc : Nat) {t : Tick}
    (hnewest : h.getLast? = some newest) (hold : 6000 < keptSpan newest.tick t) :
    leakAppend h pc t = [{ pc := pc, tick := keep t }] := by
  unfold leakAppend
  simp only [hnewest]
  rw [if_pos (show keptSpan newest.tick t > Config.leakGapTicks from hold)]
  rfl

/-- A history that stands takes the new pair at its end, and of four entries gives up the oldest. -/
theorem leakAppend_joined {h : List LeakEntry} {newest : LeakEntry} (pc : Nat) {t : Tick} (hroom : h.length ≤ 4)
    (hnewest : h.getLast? = some newest) (hrecent : keptSpan newest.tick t ≤ 6000) :
    leakAppend h pc t = if h.length = 4 then h.tail ++ [{ pc := pc, tick := keep t }]
      else h ++ [{ pc := pc, tick := keep t }] := by
  have hne : h ≠ [] := by rintro rfl; cases hnewest
  unfold leakAppend
  simp only [hnewest]
  rw [if_neg (show ¬ keptSpan newest.tick t > Config.leakGapTicks from Nat.not_lt.2 hrecent), List.length_append,
    List.length_singleton, List.tail_append_of_ne_nil hne]
  by_cases hfull : h.length = 4
  · rw [if_pos hfull, if_pos (by rw [hfull]; decide)]
  · rw [if_neg hfull, if_neg (Nat.not_lt.2 (by have : Config.leakHistoryMax = 4 := rfl; omega))]

/-- The leak rate of a history of two entries or more is formed from its two ends. -/
theorem leakRateOf_ends (oldest newest : LeakEntry) (middle : List LeakEntry) :
    leakRateOf (oldest :: (middle ++ [newest])) =
      if keptSpan oldest.tick newest.tick.tick < 200 then none
      else if newest.pc < oldest.pc then
        some (min 999 ((oldest.pc - newest.pc) * 600 / keptSpan oldest.tick newest.tick.tick))
      else some 0 := by
  have hlast : (oldest :: (middle ++ [newest])).getLast? = some newest := by
    rw [← List.cons_append, List.getLast?_concat]
  have hlength : ¬ (oldest :: (middle ++ [newest])).length < 2 := by
    rw [List.length_cons, List.length_append, List.length_singleton]; omega
  unfold leakRateOf
  rw [List.head?_cons, hlast]
  dsimp only
  rw [if_neg hlength]
  rfl

/-- Settles O18. -/
theorem leakHistoryAndRate : Obligations.LeakHistoryAndRate := by
  refine ⟨?history, rfl, fun _ => rfl, ?rate⟩
  case history =>
    rintro h pc t e rfl hroom
    refine ⟨?_, fun newest => leakAppend_afresh pc, fun newest => leakAppend_joined pc hroom⟩
    rintro rfl
    exact leakAppend_nil pc t
  case rate =>
    rintro oldest newest middle span rfl
    rw [leakRateOf_ends]
    refine ⟨fun hshort => if_pos hshort, fun hspan hfalls => ?_, fun hspan hholds => ?_⟩
    · rw [if_neg (Nat.not_lt.2 hspan), if_pos hfalls]
    · rw [if_neg (Nat.not_lt.2 hspan), if_neg (Nat.not_lt.2 hholds)]

/-! ### The twin difference (R72) -/

/-- The conditions under which the twin pair of `p` is compared, but for both figures being there (R72). -/
def State.pairCompared (s : State) (p : Pos) : Prop :=
  (s.axle (axleOf p)).kind = .twin ∧ (s.pos p).state = .active ∧ (s.pos (partner p)).state = .active ∧
    s.lifted (axleOf p) = false ∧ hasKind s.activeProfile.enable .imbalance = true

theorem State.pairCompared_partner (s : State) (p : Pos) : s.pairCompared (partner p) ↔ s.pairCompared p := by
  simp only [State.pairCompared, axleOf_partner, partner_partner, and_left_comm]

/-- The twin difference is there exactly where the pair is compared and both figures are there. -/
theorem State.pairDiff_eq_some {s : State} {p : Pos} {d : Nat} : s.pairDiff p = some d ↔
    s.pairCompared p ∧ ∃ a b, (s.pos p).pc = some a ∧ (s.pos (partner p)).pc = some b ∧ max a b - min a b = d := by
  unfold State.pairDiff
  dsimp only
  split
  · next hcompared =>
    have hcompared : s.pairCompared p := hcompared
    cases (s.pos p).pc with
    | none => simp
    | some a => cases (s.pos (partner p)).pc <;> simp [hcompared]
  · next hnot =>
    have hnot : ¬ s.pairCompared p := hnot
    simp [hnot]

theorem State.pairDiff_partner (s : State) (p : Pos) : s.pairDiff (partner p) = s.pairDiff p := by
  refine Option.ext fun d => ?_
  rw [State.pairDiff_eq_some, State.pairDiff_eq_some, State.pairCompared_partner, partner_partner]
  refine and_congr_right fun _ => ⟨?_, ?_⟩
  · rintro ⟨a, b, ha, hb, hd⟩
    exact ⟨b, a, hb, ha, by omega⟩
  · rintro ⟨a, b, ha, hb, hd⟩
    exact ⟨b, a, hb, ha, by omega⟩

theorem slotOf_partner (p : Pos) :
    (slotOf p = 0 → slotOf (partner p) = 1) ∧ (slotOf p = 2 → slotOf (partner p) = 3) := by
  revert p; decide

/-- Settles O19. -/
theorem twinDifferenceIsShared : Obligations.TwinDifferenceIsShared := by
  intro s p
  refine ⟨partner_partner p, axleOf_partner p, (slotOf_partner p).1, (slotOf_partner p).2, s.pairDiff_partner p, ?present,
    fun a b d ha hb hd => ?difference⟩
  case present =>
    rw [Option.isSome_iff_exists, Option.isSome_iff_exists, Option.isSome_iff_exists]
    simp only [State.pairDiff_eq_some]
    constructor
    · rintro ⟨d, ⟨hkind, hp, hq, hlifted, henabled⟩, a, b, ha, hb, -⟩
      exact ⟨hkind, hp, hq, ⟨a, ha⟩, ⟨b, hb⟩, hlifted, henabled⟩
    · rintro ⟨hkind, hp, hq, ⟨a, ha⟩, ⟨b, hb⟩, hlifted, henabled⟩
      exact ⟨_, ⟨hkind, hp, hq, hlifted, henabled⟩, a, b, ha, hb, rfl⟩
  case difference =>
    obtain ⟨-, x, y, hx, hy, hxy⟩ := State.pairDiff_eq_some.1 hd
    obtain rfl : a = x := Option.some.inj (ha.symm.trans hx)
    obtain rfl : b = y := Option.some.inj (hb.symm.trans hy)
    obtain hab | hab := Nat.le_total a b
    · rw [abs_of_nonpos (by omega)]; omega
    · rw [abs_of_nonneg (by omega)]; omega

/-! ### One transition (R119 to R121) -/

/-- The frame of an ALARM EVENT, the same on both ports (R121, R185). -/
def State.alarmFrame (s : State) (cause : AlarmCause) (p : Pos) (k : Kind) : TxFrame :=
  { ident := frameIdent (alarmPriority k) classReport codeAlarmEvent Config.allNodes s.address
    data := alarmBytes p k cause s.tick (s.pos p)
    sending := false }

/-- One transition taken queues its ALARM EVENT on each port. -/
theorem State.port_latchOne (cause : AlarmCause) (s : State) (p : Pos) (k : Kind) (port : Port) :
    (s.latchOne cause (p, k)).port port = (s.port port).enqueue (s.alarmFrame cause p k) := by
  cases port <;> rfl

/-- A kind latched enters the set of each port. -/
theorem Position.latched_latch (x : Position) (k : Kind) (c : Capture) (port : Port) :
    (x.latch k c).latched.get port = addKind (x.latched.get port) k := by
  cases port <;> rfl

/-- A kind latched makes a capture for the ports whose set was empty. -/
theorem Position.capture_latch (x : Position) (k : Kind) (c : Capture) (port : Port) :
    (x.latch k c).capture.get port = if x.latched.get port = 0 then some c else x.capture.get port := by
  cases port <;> rfl

/-! ### A re-evaluation (R64 to R66, R76, R77) -/

/-- Pc computed again from the last sample, at the temperature of R64, or kept (R65, R66). -/
theorem State.pc_withPc (s : State) (x : Position) : (s.withPc x).pc = (match x.sample with
    | none => x.pc
    | some sm => match sm.content.pressure with
      | none => x.pc
      | some pabs => some (coldPressure pabs
          (match sm.content.temperature, x.lastTemp with
            | some t, _ => t
            | none, some t => t
            | none, none => s.settings.tref) s.settings.tref s.context.ambient)) := by
  unfold State.withPc temperatureUsed
  cases x.sample with
  | none => rfl
  | some sm =>
    dsimp only
    cases sm.content.pressure <;> rfl

/-- The part with every ACTIVE position measured again, then tested against those figures, nothing latched yet. -/
def State.retested (s : State) : State := s.recomputeAllPc.retestAll

theorem State.recomputeAllPc_frame (s : State) :
    s.recomputeAllPc = { s with positions := s.recomputeAllPc.positions } := by
  simp only [State.recomputeAllPc, State.mapPos]

theorem State.retested_frame (s : State) : s.retested = { s with positions := s.retested.positions } := by
  simp only [State.retested, State.retestAll, State.recomputeAllPc, State.mapPos]

theorem State.pos_recomputeAllPc (s : State) (p : Pos) :
    s.recomputeAllPc.pos p = if (s.pos p).state = .active then s.withPc (s.pos p) else s.pos p :=
  s.pos_mapPos _ p

theorem State.live_recomputeAllPc (s : State) (p : Pos) : (s.recomputeAllPc.pos p).live = (s.pos p).live := by
  rw [State.pos_recomputeAllPc]
  split
  · rw [State.withPc_eq]
  · rfl

theorem State.state_recomputeAllPc (s : State) (p : Pos) : (s.recomputeAllPc.pos p).state = (s.pos p).state := by
  rw [State.pos_recomputeAllPc]
  split
  · rw [State.withPc_eq]
  · rfl

theorem State.pos_retestAll (s : State) (p : Pos) : s.retestAll.pos p = if (s.pos p).state = .active then
    { s.pos p with live := s.testedLive p fun k => k != .missing } else s.pos p := s.pos_mapPos _ p

theorem State.pos_retested (s : State) (p : Pos) : s.retested.pos p = if (s.pos p).state = .active then
    { s.recomputeAllPc.pos p with live := s.recomputeAllPc.testedLive p fun k => k != .missing } else s.pos p := by
  rw [State.retested, State.pos_retestAll, State.state_recomputeAllPc]
  by_cases hp : (s.pos p).state = .active
  · rw [if_pos hp, if_pos hp]
  · rw [if_neg hp, if_neg hp, State.pos_recomputeAllPc, if_neg hp]

/-- Measuring leaves the live sets, so a re-evaluation latches what went live from the state before it. -/
theorem State.reevaluate_eq_latchAll (s : State) : s.reevaluate =
    s.retested.latchAll .reEvaluation ((List.finRange 32).flatMap (wentLive s s.retested)) := by
  have hlive : transitionsBetween s.recomputeAllPc s.retested =
      (List.finRange 32).flatMap (wentLive s s.retested) := by
    refine congrArg (List.flatMap · (List.finRange 32)) (funext fun p => ?_)
    rw [State.live_recomputeAllPc]
    rfl
  rw [← hlive]
  rfl

/-- Settles O21. -/
theorem transitionLatchesAndReports : Obligations.TransitionLatchesAndReports := by
  refine ⟨fun s cause p k ts => ?transition, fun s => ?reevaluation⟩
  case transition =>
    have hpos := s.pos_latchOne cause (p, k)
    refine ⟨s.latchOne cause (p, k), s.latchAll_cons cause (p, k) ts, rfl, s.latchOne_eq cause (p, k),
      fun q hq => (hpos q).trans (if_neg hq), ?_, fun port => ⟨?_, fun hempty => ?_, fun hlatched => ?_,
        s.port_latchOne cause p k port⟩⟩
    · rw [hpos, if_pos rfl]; rfl
    · rw [hpos, if_pos rfl, Position.latched_latch]; rfl
    · rw [hpos, if_pos rfl, Position.capture_latch, if_pos hempty]; rfl
    · rw [hpos, if_pos rfl, Position.capture_latch, if_neg hlatched]
  case reevaluation =>
    refine ⟨s.recomputeAllPc, s.retested, s.recomputeAllPc_frame, fun p hp => ?_, fun p hp => ?_, s.retested_frame,
      fun p hp => ?_, fun p hp => ?_, s.reevaluate_eq_latchAll⟩
    · rw [State.pos_recomputeAllPc, if_neg hp]
    · rw [State.pos_recomputeAllPc, if_pos hp, State.withPc_eq]
      exact congrArg (fun pc => ({ s.pos p with pc := pc } : Position)) (s.pc_withPc (s.pos p))
    · rw [State.pos_retested, if_neg hp]
    · rw [State.pos_retested, if_pos hp]

/-! ### How every request is judged (R161, R165, R166, R180, R184) -/

/-- An identifier is its five fields side by side (R165, R180). -/
theorem ident_eq_fields (i : FrameIdent) : i = (i.extractLsb' 26 3 ++ i.extractLsb' 24 2 ++ identCode i ++
    i.extractLsb' 8 8 ++ i.extractLsb' 0 8 : BitVec 29) := by
  rw [identCode, BitVec.extractLsb'_append_extractLsb'_eq_extractLsb' (start₂ := 26) (start₁ := 24) rfl,
    BitVec.extractLsb'_append_extractLsb'_eq_extractLsb' (start₂ := 24) (start₁ := 16) rfl,
    BitVec.extractLsb'_append_extractLsb'_eq_extractLsb' (start₂ := 16) (start₁ := 8) rfl,
    BitVec.extractLsb'_append_extractLsb'_eq_extractLsb' (start₂ := 8) (start₁ := 0) rfl, BitVec.extractLsb'_eq_self]

/-- A code picks the command that carries this code, and UNKNOWN_REQUEST only where it names no request. -/
theorem commandOfCode_spec (code : Byte) (r : Request) :
    (commandOfCode code r).wellFormed = true ∧ requestOf (commandOfCode code r) = some (code, r) := by
  have hcode : BitVec.ofNat 8 code.toNat = code := (BitVec.ofNat_toNat 8 code).trans (BitVec.setWidth_eq code)
  unfold commandOfCode
  split
  case h_26 =>
    refine ⟨?_, rfl⟩
    simp_all [Instr.wellFormed, namesRequest, requestCodes, BitVec.toNat_eq]
  all_goals
    next hnat =>
      rw [hnat] at hcode
      exact ⟨rfl, by rw [← hcode]; rfl⟩

theorem State.takes_iff {s : State} {r : Request} : s.takes r = true ↔ r.form = .data29 ∧ r.cls = 0 ∧
    (r.target = 0x70#8 + s.straps.setWidth 8 ∨ r.target = 0xFF#8) ∧ (s.port r.port).mode = .active := by
  simp only [State.takes, Bool.and_eq_true, Bool.or_eq_true, beq_iff_eq, and_assoc]
  rfl

/-- A refusal or NOT-READY is one frame: its code alone, or with the entry count for READ FOREIGN (R184). -/
theorem State.refuse_frame (s : State) (r : Request) (code : Byte) (o : Reply) : s.refuse r code o =
    s.answer r code [if code = 0x05#8 then [o.code, byteOf s.foreign.length] else [o.code]] := by
  by_cases hcode : code = 0x05#8
  · rw [if_pos hcode]; exact if_pos hcode
  · rw [if_neg hcode]; exact if_neg hcode

/-- A command goes through the gate of requests, with operands that are there where they can be read. -/
def PassesGate (c : Instr) (code : Byte) (r : Request) (s : State) : Prop :=
  ∃ (α : Type) (ops : Option α) (own : α → State → State),
    exec c s = .next (s.request r code ops own) ∧ ops.isSome = operandsReadable c

theorem isSome_foreignOperand (r : Request) :
    ((byteAt r 0).bind (inRange 0 7)).isSome = (byteAt r 0).any (· ≤ 7) := by
  cases byteAt r 0 with
  | none => rfl
  | some n => by_cases hn : n ≤ 7 <;> simp [inRange, hn]

theorem isSome_lineOperand (r : Request) :
    (match (byteAt r 0).bind fourOfCode, byteAt r 1 with
      | some i, some b => some (i, b.testBit 0)
      | _, _ => none).isSome = ((byteAt r 0).any (· ≤ 3) && (byteAt r 1).isSome) := by
  cases byteAt r 0 with
  | none => rfl
  | some n =>
    by_cases hn : n < 4
    · have hle : n ≤ 3 := by omega
      cases byteAt r 1 <;> simp [fourOfCode, hn, hle]
    · have hle : ¬ n ≤ 3 := by omega
      simp [fourOfCode, hn, hle]

theorem isSome_sectionOperand (r : Request) :
    ((byteAt r 0).bind fun n => if n = 0 then some true else if n = 1 then some false else none).isSome =
      (byteAt r 0).any (· ≤ 1) := by
  cases byteAt r 0 with
  | none => rfl
  | some n =>
    match n with
    | 0 => rfl
    | 1 => rfl
    | n + 2 => simp

/-- Every request but VEHICLE STATE goes through the gate; an unknown code has no operands to read. -/
theorem exec_passesGate {c : Instr} {code : Byte} {r : Request} (hw : c.wellFormed = true)
    (hrequest : requestOf c = some (code, r)) (hcode : code ≠ 0x50#8) (s : State) : PassesGate c code r s := by
  cases c with
  | readForeign x => cases hrequest; exact ⟨_, _, _, rfl, isSome_foreignOperand r⟩
  | readLineStatus x => cases hrequest; exact ⟨_, _, _, rfl, isSome_lineOperand r⟩
  | clearSection x => cases hrequest; exact ⟨_, _, _, rfl, isSome_sectionOperand r⟩
  | unknownRequest n x =>
    cases hrequest
    have hunknown : namesRequest code = false := by simpa [Instr.wellFormed] using hw
    exact ⟨_, _, _, exec_unknownRequest hunknown r s, rfl⟩
  | vehicleState x => cases hrequest; exact absurd rfl hcode
  | readPosition x | readAxle x | readProfile x | readSettings x | readStack x | readStatus x | ack x | hold x | unhold x
  | push x | pop x | grantRequest x | grantRelease x | writePosition x | writeAxle x | writeProfile x | writeSettings x
  | lockTruck x | teachStart x | teachAppend x | teachAbort x =>
    cases hrequest; exact ⟨_, _, _, rfl, rfl⟩
  | _ => cases hrequest

/-- The code of VEHICLE STATE is that of no other well-formed command. -/
theorem eq_vehicleState {c : Instr} {r : Request} (hw : c.wellFormed = true)
    (hrequest : requestOf c = some (0x50#8, r)) : c = .vehicleState r := by
  cases c with
  | vehicleState x => cases hrequest; rfl
  | unknownRequest code x => cases hrequest; cases hw
  | _ => cases hrequest

/-- VEHICLE STATE does nothing where the port passes it over, or while STARTING (R59). -/
theorem exec_vehicleState_ignored {r : Request} {s : State} (h : s.takes r = false ∨ s.phase = .starting) :
    exec (.vehicleState r) s = .next s := by
  refine congrArg Host.Outcome.next (if_neg ?_)
  obtain htakes | hstarting := h
  · rw [htakes]; exact nofun
  · rw [hstarting, Bool.and_assoc, Bool.and_left_comm]; exact nofun

/-- What a port passes over changes nothing, whatever the request. -/
theorem exec_passedOver {c : Instr} {code : Byte} {r : Request} {s : State} (hw : c.wellFormed = true)
    (hrequest : requestOf c = some (code, r)) (hpassed : s.takes r = false) : exec c s = .next s := by
  by_cases hcode : code = 0x50#8
  · subst hcode
    rw [eq_vehicleState hw hrequest]
    exact exec_vehicleState_ignored (.inl hpassed)
  · obtain ⟨α, ops, own, hexec, -⟩ := exec_passesGate hw hrequest hcode s
    rw [hexec, State.request_passed code ops own hpassed]

/-- Settles O33. -/
theorem requestsJudgedAlike : Obligations.RequestsJudgedAlike := by
  refine ⟨fun f => ?frame, fun s r => State.takes_iff, fun c code r s hw hrequest =>
    ⟨fun hpassed => ?passed, fun htakes hstarting hcode => ?notReady, fun hstarting hcode => ?ignored,
      fun hserved hunreadable => ?invalid⟩⟩
  case frame =>
    obtain ⟨hw, hrequest⟩ := commandOfCode_spec (identCode f.ident) f.request
    exact ⟨hw, _, _, hrequest, ident_eq_fields f.ident, rfl, rfl, rfl, rfl⟩
  case passed =>
    refine exec_passedOver hw hrequest (Bool.eq_false_iff.2 fun htakes => ?_)
    obtain ⟨hform, hcls, htarget, hmode⟩ := State.takes_iff.1 htakes
    obtain h | h | ⟨haddress, hall⟩ | h := hpassed
    · exact h hform
    · exact h hcls
    · exact htarget.elim haddress hall
    · exact h hmode
  case notReady =>
    obtain ⟨α, ops, own, hexec, -⟩ := exec_passesGate hw hrequest hcode s
    rw [hexec, State.request_starting code ops own htakes hstarting, State.refuse_frame]
    rfl
  case ignored =>
    subst hcode
    rw [eq_vehicleState hw hrequest]
    exact exec_vehicleState_ignored (.inr hstarting)
  case invalid =>
    have hcode : code ≠ 0x50#8 := by
      rintro rfl
      rw [eq_vehicleState hw hrequest] at hunreadable
      cases hunreadable
    obtain ⟨α, ops, own, hexec, hops⟩ := exec_passesGate hw hrequest hcode s
    obtain rfl : ops = none :=
      Option.isNone_iff_eq_none.1 (Option.isSome_eq_false_iff.1 (hops.trans hunreadable))
    rw [hexec, State.request_invalid code own hserved, State.refuse_frame]
    rfl

/-! ### VEHICLE STATE (R59, R60) -/

theorem Context.eq_of_fields {x y : Context} (hload : x.load = y.load) (hambient : x.ambient = y.ambient)
    (htruck : ∀ i : Fin 4, x.truckLifted.getLsbD i.val = y.truckLifted.getLsbD i.val)
    (htrailer : ∀ i : Fin 4, x.trailerLifted.getLsbD i.val = y.trailerLifted.getLsbD i.val) : x = y := by
  obtain ⟨load, truck, trailer, ambient⟩ := x
  obtain rfl : load = y.load := hload
  obtain rfl : ambient = y.ambient := hambient
  obtain rfl : truck = y.truckLifted := BitVec.eq_of_getLsbD_eq fun i hi => htruck ⟨i, hi⟩
  obtain rfl : trailer = y.trailerLifted := BitVec.eq_of_getLsbD_eq fun i hi => htrailer ⟨i, hi⟩
  rfl

/-- The load is taken from its source, clamped, where it is sent (R60). -/
theorem State.load_contextAfter (s : State) (r : Request) : (s.contextAfter r).load = (match byteAt r 0 with
    | some n => if r.port = s.settings.loadSource ∧ n ≠ 255 then min 100 n else s.context.load
    | none => s.context.load) := by
  simp only [State.contextAfter, loadOperand]
  cases byteAt r 0 with
  | none => rfl
  | some n =>
    by_cases hn : n = 255
    · simp [takeField, hn]
    · simp [takeField, hn]

/-- The ambient is taken from either port, clamped, where it is sent (R60). -/
theorem State.ambient_contextAfter (s : State) (r : Request) : (s.contextAfter r).ambient = (match byteAt r 3 with
    | some n => if n ≠ 0 then max 60 (min 110 n) else s.context.ambient
    | none => s.context.ambient) := by
  simp only [State.contextAfter, ambientOperand]
  cases byteAt r 3 with
  | none => rfl
  | some n =>
    by_cases hn : n = 0
    · simp [takeField, hn]
    · simp [takeField, hn, clampNat]

/-- A lifted bit is taken from its source where the mask is flagged, and is never that of an ABSENT axle (R60). -/
theorem State.getLsbD_takenMask (s : State) (r : Request) (source : Port) (flag shift : Nat) (base : Fin 5)
    (held : AxleMask) (i : Fin 4) {a : AxleNo} {k : Nat} (ha : base.val + i.val = a.val) (hk : shift + i.val = k) :
    (takeField (r.port == source) ((maskOperand r flag shift).map (· &&& s.fittedAxles base)) held).getLsbD i.val =
      (match byteAt r 1, byteAt r 2 with
        | some m, some f => if r.port = source ∧ f.testBit flag = true then
            m.testBit k && decide ((s.axle a).kind ≠ .absent) else held.getLsbD i.val
        | _, _ => held.getLsbD i.val) := by
  have hfitted : (s.fittedAxles base).getLsbD i.val = decide ((s.axle a).kind ≠ .absent) :=
    calc (s.fittedAxles base).getLsbD i.val
      _ = ((s.axle a).kind != .absent) :=
        (s.getLsbD_fittedAxles base i).trans (congrArg (fun b => (s.axle b).kind != .absent) (Fin.ext ha))
      _ = decide ((s.axle a).kind ≠ .absent) := by rw [Bool.eq_iff_iff, bne_iff_ne, decide_eq_true_iff]
  unfold maskOperand
  cases byteAt r 1 with
  | none => rfl
  | some m =>
    cases byteAt r 2 with
    | none => rfl
    | some f =>
      by_cases hflag : f.testBit flag = true
      · by_cases hsource : r.port = source
        · have hbit : (BitVec.ofNat 4 (m >>> shift) &&& s.fittedAxles base).getLsbD i.val =
              (m.testBit k && decide ((s.axle a).kind ≠ .absent)) := by
            rw [BitVec.getLsbD_and, BitVec.getLsbD_ofNat, Nat.testBit_shiftRight, hk, hfitted,
              decide_eq_true i.isLt, Bool.true_and]
          simpa [takeField, hflag, hsource] using hbit
        · simp [takeField, hflag, hsource]
      · simp [takeField, hflag]

theorem exec_vehicleState_served {r : Request} {s : State} (hserved : s.serves r) : exec (.vehicleState r) s = .next
    (if s.contextAfter r = s.context then s
      else ({ s with context := s.contextAfter r } : State).reevaluate.recomputeWarn) := by
  obtain ⟨htakes, hrunning⟩ := hserved
  refine congrArg Host.Outcome.next ?_
  rw [htakes, hrunning]
  by_cases hsame : s.contextAfter r = s.context
  · rw [if_pos hsame, if_neg (by simp [hsame])]
  · rw [if_neg hsame, if_pos (by simp [hsame])]

/-- Settles O42. -/
theorem vehicleStateUpdatesContext : Obligations.VehicleStateUpdatesContext := by
  intro r s x hserved hload hambient htruck htrailer
  have hcontext : x = s.contextAfter r := Context.eq_of_fields (hload.trans (s.load_contextAfter r).symm)
    (hambient.trans (s.ambient_contextAfter r).symm)
    (fun i => (htruck i).trans (s.getLsbD_takenMask r _ 0 0 0 _ i (Nat.zero_add _) (Nat.zero_add _)).symm)
    (fun i => (htrailer i).trans (s.getLsbD_takenMask r _ 1 4 4 _ i rfl rfl).symm)
  rw [hcontext]
  exact ⟨exec_vehicleState_served hserved, exec_vehicleState_ignored (.inr rfl)⟩

/-! ### What a re-evaluation does not look at: the grant and the period timers -/

/-- The part with another grant record and other period timers. -/
def State.withTimers (s : State) (g : Grant) (due : PerPort (Option Tick)) : State :=
  { s with
    grant := g
    ports := { a := { s.ports.a with periodDue := due.a }, b := { s.ports.b with periodDue := due.b } } }

theorem State.port_withTimers (s : State) (g : Grant) (due : PerPort (Option Tick)) (port : Port) :
    (s.withTimers g due).port port = { s.port port with periodDue := due.get port } := by
  cases port <;> rfl

theorem PortCtl.enqueue_periodDue (c : PortCtl) (due : Option Tick) (f : TxFrame) :
    ({ c with periodDue := due } : PortCtl).enqueue f = { c.enqueue f with periodDue := due } := by
  obtain ⟨hqueue, hoverflow⟩ := PortCtl.enqueue_congr (c := { c with periodDue := due }) (x := c) rfl rfl rfl f
  rw [PortCtl.enqueue_eq, hqueue, hoverflow, PortCtl.enqueue_eq c f]

theorem State.latchOne_withTimers (s : State) (g : Grant) (due : PerPort (Option Tick)) (cause : AlarmCause)
    (t : Pos × Kind) : (s.withTimers g due).latchOne cause t = (s.latchOne cause t).withTimers g due := by
  obtain ⟨p, k⟩ := t
  have hports : ((s.withTimers g due).latchOne cause (p, k)).ports =
      ((s.latchOne cause (p, k)).withTimers g due).ports := ports_ext fun port => by
    rw [State.port_latchOne, State.port_withTimers, State.port_withTimers, State.port_latchOne,
      PortCtl.enqueue_periodDue]
    rfl
  rw [State.latchOne_eq, hports]
  rfl

theorem State.latchAll_withTimers (s : State) (g : Grant) (due : PerPort (Option Tick)) (cause : AlarmCause)
    (ts : List (Pos × Kind)) : (s.withTimers g due).latchAll cause ts = (s.latchAll cause ts).withTimers g due := by
  induction ts generalizing s with
  | nil => rfl
  | cons t ts ih => rw [State.latchAll_cons, State.latchAll_cons, State.latchOne_withTimers, ih]

theorem State.recomputeAllPc_withTimers (s : State) (g : Grant) (due : PerPort (Option Tick)) :
    (s.withTimers g due).recomputeAllPc = s.recomputeAllPc.withTimers g due := rfl

theorem State.retestAll_withTimers (s : State) (g : Grant) (due : PerPort (Option Tick)) :
    (s.withTimers g due).retestAll = s.retestAll.withTimers g due := rfl

/-- Whether a kind has gone live is a matter of the positions alone. -/
theorem wentLive_congr {before after s t : State} (hs : s.positions = before.positions)
    (ht : t.positions = after.positions) : wentLive s t = wentLive before after := by
  funext p
  simp only [wentLive, State.pos_congr hs, State.pos_congr ht]

theorem State.reevaluate_withTimers (s : State) (g : Grant) (due : PerPort (Option Tick)) :
    (s.withTimers g due).reevaluate = s.reevaluate.withTimers g due := by
  have hretested : (s.withTimers g due).retested = s.retested.withTimers g due := by
    rw [State.retested, State.retested, State.recomputeAllPc_withTimers, State.retestAll_withTimers]
  rw [State.reevaluate_eq_latchAll, State.reevaluate_eq_latchAll, hretested, State.latchAll_withTimers,
    wentLive_congr (before := s) (after := s.retested) (s := s.withTimers g due) (t := s.retested.withTimers g due)
      rfl rfl]

/-- A batch latched raises frames on a port, and leaves the rest of it. -/
theorem State.port_latchAll (s : State) (cause : AlarmCause) (ts : List (Pos × Kind)) (port : Port) :
    (s.latchAll cause ts).port port = { s.port port with
      queue := ((s.latchAll cause ts).port port).queue, overflow := ((s.latchAll cause ts).port port).overflow } := by
  induction ts generalizing s with
  | nil => rfl
  | cons t ts ih =>
    obtain ⟨p, k⟩ := t
    rw [State.latchAll_cons, ih, State.port_latchOne, PortCtl.enqueue_eq]

theorem State.port_reevaluate (s : State) (port : Port) : s.reevaluate.port port = { s.port port with
    queue := (s.reevaluate.port port).queue, overflow := (s.reevaluate.port port).overflow } := by
  have hretested : s.retested.port port = s.port port := by
    rw [State.retested, State.retestAll, State.mapPos_port, State.recomputeAllPc, State.mapPos_port]
  rw [State.reevaluate_eq_latchAll, State.port_latchAll, hretested]

/-! ### WRITE SETTINGS: what the frame selects, and what it is clamped to (R156, R181, R186) -/

/-- A WRITE SETTINGS frame with byte 0 `b`: bit 7 the group, the other bits the mask (R186). -/
def settingsWriteOf (r : Request) (b : Nat) : SettingsWrite :=
  { tref := if b < 128 ∧ b.testBit 0 = true then
      (byteAt r 1).map fun n => if n < 128 then (n : Int) else (n : Int) - 256 else none
    tipping := if b < 128 ∧ b.testBit 1 = true then byteAt r 2 else none
    lampPorts := if b < 128 ∧ b.testBit 2 = true then byteAt r 3 else none
    flashPeriod := if b < 128 ∧ b.testBit 3 = true then byteAt r 4 else none
    flashWidth := if b < 128 ∧ b.testBit 4 = true then byteAt r 5 else none
    loadSource := if b < 128 ∧ b.testBit 5 = true then byteAt r 6 else none
    truckSource := if b < 128 ∧ b.testBit 6 = true then byteAt r 7 else none
    trailerSource := if 128 ≤ b ∧ b.testBit 0 = true then byteAt r 1 else none
    periodA := if 128 ≤ b ∧ b.testBit 1 = true then byteAt r 2 else none
    periodB := if 128 ≤ b ∧ b.testBit 2 = true then byteAt r 3 else none
    orderA := if 128 ≤ b ∧ b.testBit 3 = true then byteAt r 4 else none
    orderB := if 128 ≤ b ∧ b.testBit 4 = true then byteAt r 5 else none }

theorem settingsWriteOperand_eq {r : Request} {b : Nat} (hb : byteAt r 0 = some b) :
    settingsWriteOperand r = some (settingsWriteOf r b) := by
  rw [settingsWriteOperand, hb, Option.map_some]
  by_cases hgroup : b < 128
  · simp [hgroup, Nat.not_le.2 hgroup, settingsWriteOf, SettingsWrite.blank, selected, signedAt]
  · simp [hgroup, Nat.not_lt.1 hgroup, settingsWriteOf, SettingsWrite.blank, selected]

/-- A code names nothing exactly where `bad` says so, and the value it names carries it. -/
structure NamesBy {α : Type} (read : Nat → Option α) (code : α → Nat) (bad : Nat → Bool) : Prop where
  nothing : ∀ n, read n = none ↔ bad n = true
  named : ∀ n v, read n = some v → code v = n

theorem portOfCode_namesBy : NamesBy portOfCode portCode fun n => 1 < n where
  nothing := fun n => by
    match n with
    | 0 | 1 | n + 2 => simp [portOfCode]
  named := fun n v h => by
    match n with
    | 0 | 1 => cases h; rfl
    | n + 2 => cases h

theorem visitOrder_namesBy : NamesBy VisitOrder.ofCode VisitOrder.code fun n => 1 < n where
  nothing := fun n => by
    match n with
    | 0 | 1 | n + 2 => simp [VisitOrder.ofCode]
  named := fun n v h => by
    match n with
    | 0 | 1 => cases h; rfl
    | n + 2 => cases h

theorem lampPorts_namesBy : NamesBy LampPorts.ofCode LampPorts.code fun n => 3 < n where
  nothing := fun n => by
    match n with
    | 0 | 1 | 2 | 3 | n + 4 => simp [LampPorts.ofCode]
  named := fun n v h => by
    match n with
    | 0 | 1 | 2 | 3 => cases h; rfl
    | n + 4 => cases h

theorem tipping_namesBy : NamesBy tippingOfCode tippingCode fun n => 5 < n && n != 255 where
  nothing := fun n => by
    by_cases hnone : n = 255
    · simp [tippingOfCode, hnone]
    · simp [tippingOfCode, hnone, profileOfCode, Nat.succ_le_iff]
  named := fun n v h => by
    unfold tippingOfCode profileOfCode at h
    split at h
    · next hnone => cases h; exact hnone.symm
    · split at h
      · cases h; rfl
      · cases h

section Coded

variable {α : Type} {read : Nat → Option α} {code : α → Nat} {bad : Nat → Bool} (hread : NamesBy read code bad)
include hread

theorem NamesBy.codedField_eq_none {sent : Option Nat} {old : α} :
    codedField read sent old = none ↔ sent.any bad = true := by
  cases sent with
  | none => simp [codedField]
  | some n => exact hread.nothing n

theorem NamesBy.exists_codedField {sent : Option Nat} (hsent : sent.any bad = false) (old : α) :
    ∃ v, codedField read sent old = some v ∧ code v = sent.getD (code old) := by
  cases sent with
  | none => exact ⟨old, rfl, rfl⟩
  | some n =>
    cases hv : read n with
    | none =>
      have hbad : bad n = true := (hread.nothing n).1 hv
      rw [Option.any_some, hbad] at hsent
      cases hsent
    | some v => exact ⟨v, hv, hread.named n v hv⟩

end Coded

/-- A code of the write names nothing (R156). -/
def SettingsWrite.NamesNothing (w : SettingsWrite) : Prop :=
  (w.tipping.any fun n => 5 < n && n != 255) = true ∨ (w.lampPorts.any fun n => 3 < n) = true ∨
    (w.loadSource.any fun n => 1 < n) = true ∨ (w.truckSource.any fun n => 1 < n) = true ∨
    (w.trailerSource.any fun n => 1 < n) = true ∨ (w.orderA.any fun n => 1 < n) = true ∨
    (w.orderB.any fun n => 1 < n) = true

theorem SettingsWrite.not_namesNothing {w : SettingsWrite} : ¬ w.NamesNothing ↔
    (w.tipping.any fun n => 5 < n && n != 255) = false ∧ (w.lampPorts.any fun n => 3 < n) = false ∧
      (w.loadSource.any fun n => 1 < n) = false ∧ (w.truckSource.any fun n => 1 < n) = false ∧
      (w.trailerSource.any fun n => 1 < n) = false ∧ (w.orderA.any fun n => 1 < n) = false ∧
      (w.orderB.any fun n => 1 < n) = false := by
  simp only [SettingsWrite.NamesNothing, not_or, Bool.not_eq_true]

theorem SettingsWrite.apply_eq_none {w : SettingsWrite} (h : w.NamesNothing) (old : Settings) :
    w.apply old = none := by
  unfold SettingsWrite.NamesNothing at h
  rw [← tipping_namesBy.codedField_eq_none (old := old.tipping),
    ← lampPorts_namesBy.codedField_eq_none (old := old.lampPorts),
    ← portOfCode_namesBy.codedField_eq_none (sent := w.loadSource) (old := old.loadSource),
    ← portOfCode_namesBy.codedField_eq_none (sent := w.truckSource) (old := old.truckSource),
    ← portOfCode_namesBy.codedField_eq_none (sent := w.trailerSource) (old := old.trailerSource),
    ← visitOrder_namesBy.codedField_eq_none (sent := w.orderA) (old := old.order.a),
    ← visitOrder_namesBy.codedField_eq_none (sent := w.orderB) (old := old.order.b)] at h
  unfold SettingsWrite.apply
  split
  · next htipping hlamp hload htruck htrailer horderA horderB =>
    simp only [htipping, hlamp, hload, htruck, htrailer, horderA, horderB, reduceCtorEq, or_self] at h
  · rfl

/-- The settings that a write leaves: each field selected stored, clamped to its range, the others kept (R156). -/
structure SettingsWrite.Stores (w : SettingsWrite) (old x : Settings) : Prop where
  tref : x.tref = (w.tref.map fun n => max (-10) (min 40 n)).getD old.tref
  tipping : tippingCode x.tipping = w.tipping.getD (tippingCode old.tipping)
  lamp : x.lampPorts.code = w.lampPorts.getD old.lampPorts.code
  period : x.flashPeriod = (w.flashPeriod.map fun n => max 2 (min 50 n)).getD old.flashPeriod
  width : x.flashWidth = (w.flashWidth.map fun n => max 1 (min 50 n)).getD old.flashWidth
  load : portCode x.loadSource = w.loadSource.getD (portCode old.loadSource)
  truck : portCode x.truckSource = w.truckSource.getD (portCode old.truckSource)
  trailer : portCode x.trailerSource = w.trailerSource.getD (portCode old.trailerSource)
  periodA : x.reportPeriod.a = (w.periodA.map fun n => max 1 (min 50 n)).getD old.reportPeriod.a
  periodB : x.reportPeriod.b = (w.periodB.map fun n => max 1 (min 50 n)).getD old.reportPeriod.b
  orderA : x.order.a.code = w.orderA.getD old.order.a.code
  orderB : x.order.b.code = w.orderB.getD old.order.b.code

theorem SettingsWrite.apply_stores {w : SettingsWrite} (h : ¬ w.NamesNothing) (old : Settings) :
    ∃ x, w.apply old = some x ∧ w.Stores old x := by
  obtain ⟨htipping, hlamp, hload, htruck, htrailer, horderA, horderB⟩ := SettingsWrite.not_namesNothing.1 h
  obtain ⟨tipping, etipping, ctipping⟩ := tipping_namesBy.exists_codedField htipping old.tipping
  obtain ⟨lamp, elamp, clamp⟩ := lampPorts_namesBy.exists_codedField hlamp old.lampPorts
  obtain ⟨load, eload, cload⟩ := portOfCode_namesBy.exists_codedField hload old.loadSource
  obtain ⟨truck, etruck, ctruck⟩ := portOfCode_namesBy.exists_codedField htruck old.truckSource
  obtain ⟨trailer, etrailer, ctrailer⟩ := portOfCode_namesBy.exists_codedField htrailer old.trailerSource
  obtain ⟨orderA, eorderA, corderA⟩ := visitOrder_namesBy.exists_codedField horderA old.order.a
  obtain ⟨orderB, eorderB, corderB⟩ := visitOrder_namesBy.exists_codedField horderB old.order.b
  refine ⟨_, by simp only [SettingsWrite.apply, etipping, elamp, eload, etruck, etrailer, eorderA, eorderB]; rfl, ?_⟩
  exact ⟨rfl, ctipping, clamp, rfl, rfl, cload, ctruck, ctrailer, rfl, rfl, corderA, corderB⟩

theorem clampNat_changes {lo hi : Nat} (h : lo ≤ hi) (n : Nat) :
    (clampNat lo hi n != n) = (decide (n < lo) || decide (hi < n)) := by
  rw [Bool.eq_iff_iff, bne_iff_ne, Bool.or_eq_true, decide_eq_true_eq, decide_eq_true_eq]
  simp only [clampNat]
  omega

theorem clampInt_changes {lo hi : Int} (h : lo ≤ hi) (n : Int) :
    (clampInt lo hi n != n) = (decide (n < lo) || decide (hi < n)) := by
  rw [Bool.eq_iff_iff, bne_iff_ne, Bool.or_eq_true, decide_eq_true_eq, decide_eq_true_eq]
  simp only [clampInt]
  omega

theorem SettingsWrite.clamps_eq (w : SettingsWrite) : w.clamps =
    ((w.tref.any fun n => n < -10 || 40 < n) || (w.flashPeriod.any fun n => n < 2 || 50 < n) ||
      (w.flashWidth.any fun n => n < 1 || 50 < n) || (w.periodA.any fun n => n < 1 || 50 < n) ||
      (w.periodB.any fun n => n < 1 || 50 < n)) := by
  simp only [SettingsWrite.clamps, clampInt_changes (show (-10 : Int) ≤ 40 by decide),
    clampNat_changes (show 2 ≤ 50 by decide), clampNat_changes (show 1 ≤ 50 by decide)]

/-! ### WRITE SETTINGS: what an accepted write does to the part (R63, R108, R126, R156, R175) -/

section Applied

variable (s : State) (x : Settings)

/-- The part with new settings, measured and tested again where Tref has changed (R63). -/
def State.settingsMeasured : State :=
  if x.tref = s.settings.tref then { s with settings := x } else ({ s with settings := x } : State).reevaluate

/-- The grant record after an accepted write: P marked on a change, the idle timer restarted (R147, R156). -/
def State.settingsGrant : Grant :=
  { s.grant with
    marks := if x = s.settings then s.grant.marks else s.grant.marks.set .p true
    idleTimer := if s.teach = none then some s.tick else s.grant.idleTimer }

/-- A port's period timer after an accepted write: restarted, if it runs, where its period has changed (R175). -/
def State.settingsDue (port : Port) : Option Tick :=
  if x.reportPeriod.get port = s.settings.reportPeriod.get port then (s.port port).periodDue
  else (s.port port).periodDue.map fun _ => s.tick + BitVec.ofNat 24 (x.reportPeriod.get port)

/-- The part after an accepted write, but for the WARN line. -/
def State.settingsTaken : State :=
  (s.settingsMeasured x).withTimers (s.settingsGrant x) { a := s.settingsDue x .a, b := s.settingsDue x .b }

theorem PortCtl.restartPeriod_eq (c : PortCtl) (new old : Nat) (now : Tick) :
    c.restartPeriod (new != old) now new = { c with
      periodDue := if new = old then c.periodDue else c.periodDue.map fun _ => now + BitVec.ofNat 24 new } := by
  unfold PortCtl.restartPeriod
  by_cases h : new = old
  · rw [if_neg (by simp [h]), if_pos h]
  · rw [if_pos (by simp [h]), if_neg h]
    rfl

/-- The settings are stored, the periods restarted and P marked before anything is measured again: the measuring looks
at none of the timers and marks. -/
theorem State.applySettings_eq : s.applySettings x =
    if x.flashPeriod = s.settings.flashPeriod ∧ x.flashWidth = s.settings.flashWidth then
      (s.settingsTaken x).recomputeWarn
    else (s.settingsTaken x).recomputeWarn.restartFlash := by
  have htaken : ∀ marked : State, marked = ({ s with settings := x } : State).withTimers
        { s.grant with marks := if x = s.settings then s.grant.marks else s.grant.marks.set .p true }
        { a := s.settingsDue x .a, b := s.settingsDue x .b } →
      (if x.tref = s.settings.tref then marked else marked.reevaluate).refreshIdle = s.settingsTaken x := by
    rintro _ rfl
    rw [State.refreshIdle_eq]
    by_cases htref : x.tref = s.settings.tref
    · rw [if_pos htref, State.settingsTaken, State.settingsMeasured, if_pos htref]
      rfl
    · rw [if_neg htref, State.reevaluate_withTimers, State.settingsTaken, State.settingsMeasured, if_neg htref,
        State.reevaluate_eq]
      rfl
  unfold State.applySettings
  dsimp only
  rw [htaken _ ?marked]
  case marked =>
    rw [PortCtl.restartPeriod_eq, PortCtl.restartPeriod_eq]
    by_cases hsame : x = s.settings
    · rw [if_pos hsame, if_pos hsame]; rfl
    · rw [if_neg hsame, if_neg hsame]; rfl

/-- Measuring changes positions and ports alone. -/
theorem State.settingsMeasured_eq : s.settingsMeasured x = { s with
    settings := x, positions := (s.settingsMeasured x).positions, ports := (s.settingsMeasured x).ports } := by
  unfold State.settingsMeasured
  split
  · rfl
  · rw [State.reevaluate_eq]

/-- The WARN line apart, an accepted write leaves the part as it is taken. -/
theorem State.applySettings_frame :
    s.applySettings x = { s.settingsTaken x with warn := (s.applySettings x).warn } := by
  rw [State.applySettings_eq]
  split
  · exact State.recomputeWarn_eq _
  · rw [State.recomputeWarn_eq]
    unfold State.restartFlash
    split <;> rfl

theorem State.warn_applySettings_level :
    (s.applySettings x).warn.level = levelOf (s.applySettings x).counted := by
  have hcounted : (s.applySettings x).counted = (s.settingsTaken x).counted :=
    State.counted_congr (by rw [State.applySettings_frame]) (by rw [State.applySettings_frame])
  rw [hcounted, ← State.recomputeWarn_level, State.applySettings_eq]
  split
  · rfl
  · unfold State.restartFlash
    split <;> rfl

/-- A changed flash value starts the pattern afresh while the level is FLASH (R126). -/
theorem State.warn_applySettings_restarted (hflash : (s.applySettings x).warn.level = .flash)
    (hchanged : x.flashPeriod ≠ s.settings.flashPeriod ∨ x.flashWidth ≠ s.settings.flashWidth) :
    (s.applySettings x).warn.phaseStart = s.tick ∧ (s.applySettings x).warn.high = true := by
  have hnew : ¬ (x.flashPeriod = s.settings.flashPeriod ∧ x.flashWidth = s.settings.flashWidth) := by tauto
  have htick : (s.settingsTaken x).recomputeWarn.tick = s.tick := by
    rw [State.recomputeWarn_tick, State.settingsTaken, State.settingsMeasured_eq]; rfl
  rw [State.applySettings_eq, if_neg hnew] at hflash ⊢
  unfold State.restartFlash at hflash ⊢
  split at hflash
  · next hlevel => rw [if_pos hlevel, htick]; exact ⟨rfl, rfl⟩
  · next hlevel => exact absurd hflash hlevel

theorem State.port_settingsTaken (port : Port) :
    (s.settingsTaken x).port port = { (s.settingsMeasured x).port port with periodDue := s.settingsDue x port } := by
  rw [State.settingsTaken, State.port_withTimers]
  cases port <;> rfl

theorem State.settingsMeasured_same (h : x.tref = s.settings.tref) : s.settingsMeasured x = { s with settings := x } :=
  if_pos h

theorem State.settingsMeasured_new (h : x.tref ≠ s.settings.tref) :
    s.settingsMeasured x = ({ s with settings := x } : State).reevaluate := if_neg h

/-- Measuring raises frames on a port, and leaves the rest of it. -/
theorem State.port_settingsMeasured (port : Port) : (s.settingsMeasured x).port port = { s.port port with
    queue := ((s.settingsMeasured x).port port).queue
    overflow := ((s.settingsMeasured x).port port).overflow } := by
  by_cases h : x.tref = s.settings.tref
  · rw [State.settingsMeasured_same s x h]; rfl
  · rw [State.settingsMeasured_new s x h]
    exact State.port_reevaluate _ port

theorem State.port_applySettings (port : Port) :
    (s.applySettings x).port port = { (s.settingsMeasured x).port port with periodDue := s.settingsDue x port } := by
  rw [State.applySettings_frame, ← State.port_settingsTaken]
  rfl

theorem State.positions_applySettings : (s.applySettings x).positions = (s.settingsMeasured x).positions := by
  rw [State.applySettings_frame]
  rfl

end Applied

/-- WRITE SETTINGS from the holder: refused whole, or applied (R156). -/
theorem exec_writeSettings_served {r : Request} {s : State} {b : Nat} (hserved : s.servesHolder r)
    (hb : byteAt r 0 = some b) : exec (.writeSettings r) s = .next
      (match (settingsWriteOf r b).apply s.settings with
        | none => s.answer r 0x33#8 [[0x82#8]]
        | some x => (s.applySettings x).answer r 0x33#8 [[if (settingsWriteOf r b).clamps = true then 1 else 0]]) := by
  simp only [exec, execWriteSettings, settingsWriteOperand_eq hb]
  rw [State.edit_served codeWriteSettings _ _ hserved]
  cases (settingsWriteOf r b).apply s.settings with
  | none => exact congrArg Host.Outcome.next (s.refuse_of_ne (code := codeWriteSettings) r .invalid (by decide))
  | some x => exact congrArg Host.Outcome.next (reply_clamped ..)

/-- Settles O46. -/
theorem writeSettingsResult : Obligations.WriteSettingsResult := by
  rintro r s b _ _ _ _ _ _ _ _ _ _ _ _ hserved hb rfl rfl rfl rfl rfl rfl rfl rfl rfl rfl rfl rfl
  have hexec := exec_writeSettings_served hserved hb
  refine ⟨fun hbad => ?refused, fun htipping hlamp hload htruck htrailer horderA horderB => ?applied⟩
  case refused =>
    have hnothing : (settingsWriteOf r b).NamesNothing := hbad
    rw [hexec, SettingsWrite.apply_eq_none hnothing]
  case applied =>
    have hnames : ¬ (settingsWriteOf r b).NamesNothing :=
      SettingsWrite.not_namesNothing.2 ⟨htipping, hlamp, hload, htruck, htrailer, horderA, horderB⟩
    obtain ⟨x, happly, hstores⟩ := SettingsWrite.apply_stores hnames s.settings
    rw [happly, SettingsWrite.clamps_eq] at hexec
    refine ⟨x, s.applySettings x, hstores.tref, hstores.tipping, hstores.lamp, hstores.period, hstores.width,
      hstores.load, hstores.truck, hstores.trailer, hstores.periodA, hstores.periodB, hstores.orderA, hstores.orderB,
      fun hlawful => SettingsWrite.apply_lawful hlawful happly, hexec, ?frame, ?grant, fun htref => ?kept,
      fun htref => ?measured, s.warn_applySettings_level x, s.warn_applySettings_restarted x, fun port => ?due,
      fun port => ?port⟩
    case frame =>
      rw [State.applySettings_frame, State.settingsTaken, State.settingsMeasured_eq]
      rfl
    case grant =>
      rw [State.applySettings_frame]
      rfl
    case kept => rw [State.positions_applySettings, State.settingsMeasured_same s x htref]
    case measured => rw [State.positions_applySettings, State.settingsMeasured_new s x htref]
    case due =>
      rw [State.port_applySettings]
      rfl
    case port =>
      rw [State.port_applySettings, State.port_settingsMeasured]
      refine ⟨rfl, rfl, rfl, fun htref => ?_, ?_⟩
      · rw [State.settingsMeasured_same s x htref]
        exact ⟨rfl, rfl⟩
      · rintro htref _ rfl
        rw [State.settingsMeasured_new s x htref]
        exact ⟨rfl, rfl⟩

end Sys2Proof.Machine
end

section
/-! PROOF. Sensor supervision: what the expiry of a deadline leaves of its position, of the twin partner and of the
ports: the statement O23. -/

namespace Sys2Proof.Machine

/-! ### An expiry (R85, R116, R120) -/

/-- A kind added to a mask without it is the one transition. -/
theorem transitions_addKind {m : KindMask} {k : Kind} (h : hasKind m k = false) : transitions m (addKind m k) = [k] := by
  have hnew : ∀ j, (hasKind (addKind m k) j && !hasKind m j) = decide (j = k) := fun j => by
    rw [hasKind_addKind]
    by_cases hj : j = k
    · subst hj; simp [h]
    · simp [hj]
  rw [transitions, List.filter_congr fun j _ => hnew j]
  cases k <;> rfl

/-- A record replaced takes IMBALANCE from the twin partner too (R116). -/
theorem State.pos_setPos_dropPartnerImbalance (s : State) (p q : Pos) (x : Position) :
    ((s.setPos p x).dropPartnerImbalance p).pos q =
      if q = p then x else if q = partner p then (s.pos q).withoutImbalance else s.pos q := by
  rw [State.pos_dropPartnerImbalance]
  by_cases hq : q = partner p
  · subst hq
    rw [if_pos rfl, if_neg (partner_ne p), if_pos rfl, State.pos_setPos_ne _ _ (partner_ne p)]
  · rw [if_neg hq, if_neg hq, State.pos_setPos]

section Expiry

variable (s : State) (p : Pos)

/-- The part with position `p` fallen MISSING and IMBALANCE gone from the pair, nothing latched yet. -/
def State.expired : State := (s.setPos p (s.missingRecord (s.pos p))).dropPartnerImbalance p

theorem State.pos_expired (q : Pos) : (s.expired p).pos q =
    if q = p then s.missingRecord (s.pos p) else if q = partner p then (s.pos q).withoutImbalance else s.pos q :=
  s.pos_setPos_dropPartnerImbalance p q _

theorem State.pos_expired_same : (s.expired p).pos p = s.missingRecord (s.pos p) :=
  (s.pos_expired p p).trans (if_pos rfl)

/-- The latching of an expiry concerns its own position alone. -/
theorem State.pos_fallMissing_other {q : Pos} (hq : q ≠ p) : (s.fallMissing p).pos q = (s.expired p).pos q := by
  rw [State.fallMissing_eq_latchAll]
  refine (State.pos_latchAll ..).2 fun t ht => ?_
  obtain ⟨k, -, rfl⟩ := List.mem_map.1 ht
  exact hq.symm

/-- An expiry changes at its position the state, the deadline, the live set and what latching changes. -/
theorem State.pos_fallMissing_same : (s.fallMissing p).pos p = { s.missingRecord (s.pos p) with
    latched := ((s.fallMissing p).pos p).latched, capture := ((s.fallMissing p).pos p).capture } := by
  have hlatched := (State.pos_latchAll .expiry (s.expired p) ((transitions (dropKind (s.pos p).live .imbalance)
    (s.missingRecord (s.pos p)).live).map fun k => (p, k)) p).1
  rw [State.pos_expired_same] at hlatched
  exact hlatched

variable {s p}

theorem State.live_missingRecord_disabled (h : hasKind s.activeProfile.enable .missing = false) (x : Position) :
    (s.missingRecord x).live = dropKind x.live .imbalance := if_neg (h ▸ Bool.false_ne_true)

theorem State.live_missingRecord_enabled (h : hasKind s.activeProfile.enable .missing = true) (x : Position) :
    (s.missingRecord x).live = addKind (dropKind x.live .imbalance) .missing := if_pos h

/-- Where MISSING is not enabled nothing goes live, and nothing is latched. -/
theorem State.fallMissing_disabled (h : hasKind s.activeProfile.enable .missing = false) :
    s.fallMissing p = s.expired p := by
  rw [State.fallMissing_eq_latchAll, State.live_missingRecord_disabled h, transitions_self]
  rfl

/-- Where MISSING is enabled it is the one transition, as a position that is not MISSING does not have it live. -/
theorem State.fallMissing_enabled (h : hasKind s.activeProfile.enable .missing = true)
    (halive : hasKind (s.pos p).live .missing = false) :
    s.fallMissing p = (s.expired p).latchOne .expiry (p, .missing) := by
  have habsent : hasKind (dropKind (s.pos p).live .imbalance) .missing = false := by
    rw [hasKind_dropKind, halive, Bool.false_and]
  rw [State.fallMissing_eq_latchAll, State.live_missingRecord_enabled h, transitions_addKind habsent]
  rfl

/-- A position with a deadline is WAITING or ACTIVE, so MISSING is not live there (R79, R117). -/
theorem Position.Lawful.missing_not_live {x : Position} (hx : x.Lawful) {now : Tick} (h : x.deadline = some now) :
    hasKind x.live .missing = false := by
  refine hx.alive fun hmissing => ?_
  obtain hst | hst := hx.deadline.1 (h ▸ rfl)
  · rw [hst] at hmissing; cases hmissing
  · rw [hst] at hmissing; cases hmissing

theorem exec_deadlineExpiry_due (h : (s.pos p).deadline = some s.tick) :
    exec (.deadlineExpiry p) s = .next (s.fallMissing p).recomputeWarn := congrArg Host.Outcome.next (if_pos h)

theorem exec_deadlineExpiry_notDue (h : (s.pos p).deadline ≠ some s.tick) :
    exec (.deadlineExpiry p) s = .next s := congrArg Host.Outcome.next (if_neg h)

end Expiry

/-- Settles O23. -/
theorem deadlineExpiryMakesMissing : Obligations.DeadlineExpiryMakesMissing := by
  intro p s hlaw
  refine ⟨exec_deadlineExpiry_notDue, fun hdue => ⟨_, exec_deadlineExpiry_due hdue, ?frame, ?_⟩⟩
  case frame =>
    rw [State.recomputeWarn_eq, State.fallMissing_eq]
  simp only [State.recomputeWarn_pos, State.recomputeWarn_ports, State.recomputeWarn_port]
  refine ⟨fun q hqp hqt => ?others, ?twin, ?position, fun hdisabled => ?disabled, fun henabled => ?enabled⟩
  case others => rw [s.pos_fallMissing_other p hqp, State.pos_expired, if_neg hqp, if_neg hqt]
  case twin =>
    rw [s.pos_fallMissing_other p (partner_ne p), State.pos_expired, if_neg (partner_ne p), if_pos rfl]
    rfl
  case position =>
    rw [State.pos_fallMissing_same]
    rfl
  case disabled =>
    rw [State.fallMissing_disabled hdisabled, State.pos_expired_same]
    exact ⟨State.live_missingRecord_disabled hdisabled _, rfl, rfl, rfl⟩
  case enabled =>
    have hat := (s.expired p).pos_latchOne .expiry (p, .missing) p
    rw [if_pos rfl, State.pos_expired_same] at hat
    rw [State.fallMissing_enabled henabled ((hlaw.lawful p).missing_not_live hdue), hat]
    refine ⟨State.live_missingRecord_enabled henabled _, fun port => ⟨?_, fun hempty => ?_, fun hlatched => ?_, ?_⟩⟩
    · exact Position.latched_latch ..
    · exact (Position.capture_latch ..).trans (if_pos hempty)
    · exact (Position.capture_latch ..).trans (if_neg hlatched)
    · rw [State.port_latchOne, State.alarmFrame, State.pos_expired_same]
      rfl

end Sys2Proof.Machine
end

section
/-! PROOF. Alarm profiles and the Profile Stack: the tests that the active profile makes of a position, the changes of
the stack and their report, and the writes of the Profile Table: the statements O20, O26, O39 and O45. -/

namespace Sys2Proof.Machine

/-! ### The tests of a condition kind (R93, R113, R114, R116) -/

section Tests

variable {pr : Profile} {th : Thresholds} {diff : Option Nat} {x : Position} {k : Kind}

theorem liveAfterTest_disabled (hoff : hasKind pr.enable k = false) : liveAfterTest pr th diff x k = false := by
  rw [liveAfterTest, hoff]; rfl

theorem liveAfterTest_enabled (hon : hasKind pr.enable k = true) : liveAfterTest pr th diff x k =
    if hasKind x.live k then !clearTest pr th diff x k else setTest pr th diff x k := if_pos hon

/-- A kind whose tests are two conditions is judged by them (R113). -/
theorem judgedBy_liveAfterTest {set clear : Prop} [Decidable set] [Decidable clear]
    (hset : setTest pr th diff x k = decide set) (hclear : clearTest pr th diff x k = decide clear)
    (hon : hasKind pr.enable k = true) :
    JudgedBy (hasKind x.live k) (liveAfterTest pr th diff x k) set clear := by
  rw [liveAfterTest_enabled hon, hset, hclear]
  refine ⟨fun hdead => ?_, fun hlive => ?_⟩
  · rw [hdead]; simp
  · rw [hlive]; simp

/-- A missing input that clears (R114): the kind is not live after. -/
theorem liveAfterTest_cleared (hset : setTest pr th diff x k = false) (hclear : clearTest pr th diff x k = true)
    (hon : hasKind pr.enable k = true) : liveAfterTest pr th diff x k = false := by
  rw [liveAfterTest_enabled hon, hset, hclear]
  exact ite_self false

/-- A missing input that judges nothing (R114): the kind stays as it was. -/
theorem liveAfterTest_kept (hset : setTest pr th diff x k = false) (hclear : clearTest pr th diff x k = false)
    (hon : hasKind pr.enable k = true) : liveAfterTest pr th diff x k = hasKind x.live k := by
  rw [liveAfterTest_enabled hon, hset, hclear]
  cases hasKind x.live k <;> rfl

/-- A kind whose clear test is the opposite of its set test follows the set test. -/
theorem liveAfterTest_follows (hopposite : clearTest pr th diff x k = !setTest pr th diff x k)
    (hon : hasKind pr.enable k = true) : liveAfterTest pr th diff x k = setTest pr th diff x k := by
  rw [liveAfterTest_enabled hon, hopposite, Bool.not_not]
  exact ite_self _

/-- On a sample each flag kind's clear test is the opposite of its set test. -/
theorem clearTest_flag {sm : Sample} (hsample : x.sample = some sm) (hk : k ∈ [Kind.sensorFault, .batteryLow]) :
    clearTest pr th diff x k = !setTest pr th diff x k := by
  obtain rfl | rfl : k = .sensorFault ∨ k = .batteryLow := by simpa using hk
  · simp only [setTest, clearTest, hsample, Bool.not_or, Option.not_isNone]
  · simp only [setTest, clearTest, hsample]

/-- The hysteresis of a lawful profile keeps the two tests of every kind apart (R93, R113). -/
theorem not_setTest_and_clearTest (hpr : pr.Lawful) (hset : setTest pr th diff x k = true) :
    clearTest pr th diff x k = false := by
  have hth := hpr.th.1
  cases k with
  | underW | underC | overW =>
    cases hpc : x.pc with
    | none => simp [setTest, hpc] at hset
    | some pc => simp only [setTest, clearTest, hpc, decide_eq_true_eq, decide_eq_false_iff_not] at hset ⊢; omega
  | leak =>
    cases hrate : x.leakRate with
    | none => simp [setTest, hrate] at hset
    | some rate => simp only [setTest, clearTest, hrate, decide_eq_true_eq, decide_eq_false_iff_not] at hset ⊢; omega
  | tempW | tempC =>
    cases htemp : x.sample.bind (·.content.temperature) with
    | none => simp [setTest, htemp] at hset
    | some t => simp only [setTest, clearTest, htemp, decide_eq_true_eq, decide_eq_false_iff_not] at hset ⊢; omega
  | imbalance =>
    cases hdiff : diff with
    | none => simp [setTest, hdiff] at hset
    | some d => simp only [setTest, clearTest, hdiff, decide_eq_true_eq, decide_eq_false_iff_not] at hset ⊢; omega
  | missing => cases hset
  | sensorFault | batteryLow =>
    cases hsample : x.sample with
    | none => simp [setTest, hsample] at hset
    | some sm => rw [clearTest_flag hsample (by decide), hset]; rfl

end Tests

/-- Settles O20: each enabled kind by its own inputs, present or missing. -/
theorem conditionTestsFollowHysteresis : Obligations.ConditionTestsFollowHysteresis := by
  refine ⟨fun s p which k => s.hasKind_testedLive p which k, fun pr th diff x k => liveAfterTest_disabled, ?judged,
    fun pr th diff x k hpr hboth => ?apart⟩
  case apart => exact Bool.false_ne_true ((not_setTest_and_clearTest hpr hboth.1).symm.trans hboth.2)
  rintro pr th diff x _ _ _ rfl rfl rfl
  refine ⟨fun hpc => ?noPressure, fun pc hpc => ?pressure, fun hon hrate => ?noRate, fun rate hon hrate => ?rate,
    fun htemp => ?noTemperature, fun t htemp => ?temperature, fun hon hdiff => ?noTwin, fun d hon hdiff => ?twin,
    fun sm hsm => ?flags⟩
  case noPressure =>
    refine ⟨liveAfterTest_cleared ?_ ?_, liveAfterTest_cleared ?_ ?_, liveAfterTest_cleared ?_ ?_⟩ <;>
      simp only [setTest, clearTest, hpc]
  case pressure =>
    refine ⟨judgedBy_liveAfterTest ?_ ?_, judgedBy_liveAfterTest ?_ ?_, judgedBy_liveAfterTest ?_ ?_⟩ <;>
      simp only [setTest, clearTest, hpc]
  case noRate => exact liveAfterTest_cleared (by simp only [setTest, hrate]) (by simp only [clearTest, hrate]) hon
  case rate => exact judgedBy_liveAfterTest (by simp only [setTest, hrate]) (by simp only [clearTest, hrate]) hon
  case noTemperature =>
    refine ⟨liveAfterTest_kept ?_ ?_, liveAfterTest_kept ?_ ?_⟩ <;> simp only [setTest, clearTest, htemp]
  case temperature =>
    refine ⟨judgedBy_liveAfterTest ?_ ?_, judgedBy_liveAfterTest ?_ ?_⟩ <;> simp only [setTest, clearTest, htemp]
  case noTwin => exact liveAfterTest_cleared (by simp only [setTest, hdiff]) (by simp only [clearTest, hdiff]) hon
  case twin => exact judgedBy_liveAfterTest (by simp only [setTest, hdiff]) (by simp only [clearTest, hdiff]) hon
  case flags =>
    refine ⟨fun hon => ?_, fun hon => ?_⟩
    · rw [liveAfterTest_follows (clearTest_flag hsm (by decide)) hon]
      simp only [setTest, hsm, Bool.or_eq_true, Option.isNone_iff_eq_none, or_assoc]
    · rw [liveAfterTest_follows (clearTest_flag hsm (by decide)) hon]
      simp only [setTest, hsm]

theorem profileOperand_eq {r : Request} {i : ProfileNo} (h : byteAt r 0 = some i.val) : profileOperand r = some i := by
  rw [profileOperand, h, Option.bind_some, profileOfCode, dif_pos i.isLt]

/-! ### A stack change and its report (R99, R100, R102, R103, R109, R185) -/

/-- The cause and the port of a change, as byte 0 of STACK CHANGED carries them; 3 where there is no port. -/
def changeCode (cause : StackCause) (port : Option Port) : Nat := cause.code + 4 * port.elim 3 portCode

theorem stackBytes_eq (c : StackChange) : stackBytes c =
    [byteOf (changeCode c.cause c.port + 16 * bitOf c.discarded.isSome + 32 * bitOf c.fallBack +
        64 * bitOf c.topChanged),
      optEntry c.discarded, byteOf c.stack.length, optEntry c.stack[0]?, optEntry c.stack[1]?,
      optEntry c.stack[2]?] := by
  rw [stackBytes, changeCode]
  cases c.port <;> rfl

theorem pushChange_eq (stack : List StackEntry) (e : StackEntry) (cause : StackCause) (port : Option Port) :
    pushChange stack e cause port =
      { cause := cause, port := port
        stack := (if stack.length < 3 then stack else stack.tail) ++ [e]
        discarded := if stack.length < 3 then none else stack.head?
        fallBack := false, topChanged := true } := by
  by_cases hroom : stack.length < 3
  · have hfull : ¬ stack.length ≥ Config.stackCapacity := Nat.not_le.2 hroom
    simp only [pushChange, if_pos hroom, if_neg hfull]
  · have hfull : stack.length ≥ Config.stackCapacity := Nat.not_lt.1 hroom
    simp only [pushChange, if_neg hroom, if_pos hfull]

/-- The entry that a push discards is there exactly on a full stack. -/
theorem bitOf_discarded (stack : List StackEntry) :
    16 * bitOf (if stack.length < 3 then none else stack.head?).isSome = if stack.length < 3 then 0 else 16 := by
  split
  · rfl
  · next hfull =>
    obtain ⟨bottom, rest, rfl⟩ := List.exists_cons_of_length_pos (l := stack) (by omega)
    rfl

/-- A push carried out: the report, then the re-evaluation of the new top's profile (R99, R100). -/
theorem State.changeStack_pushChange (s : State) (e : StackEntry) (cause : StackCause) (port : Option Port)
    {stack : List StackEntry} (hstack : stack = (if s.stack.length < 3 then s.stack else s.stack.tail) ++ [e]) :
    s.changeStack (pushChange s.stack e cause port) =
      (({ s with stack := stack } : State).raisedOnBoth 3 2 0x62#8 fun _ =>
        [byteOf (changeCode cause port + (if s.stack.length < 3 then 0 else 16) + 64),
          optEntry (if s.stack.length < 3 then none else s.stack.head?), byteOf stack.length,
          optEntry stack[0]?, optEntry stack[1]?, optEntry stack[2]?]).reevaluate := by
  rw [State.changeStack_raisedOnBoth, stackBytes_eq, pushChange_eq]
  dsimp only
  rw [← hstack, bitOf_discarded, if_pos rfl]
  rfl

/-! ### A removal by origin (R102, R103, R107) -/

theorem hasOrigin_eq_true {o : Origin} {e : StackEntry} : hasOrigin o e = true ↔ e.origin = o := beq_iff_eq

theorem hasOrigin_eq_false {o : Origin} {e : StackEntry} : hasOrigin o e = false ↔ e.origin ≠ o :=
  beq_eq_false_iff_ne

theorem popChange_absent {stack : List StackEntry} {o : Origin} (habsent : ∀ e ∈ stack, e.origin ≠ o)
    (cause : StackCause) (port : Option Port) : popChange stack o cause port = none := by
  refine if_neg fun hany => ?_
  obtain ⟨e, he, ho⟩ := List.any_eq_true.1 hany
  exact habsent e he (hasOrigin_eq_true.1 ho)

theorem popChange_present {stack : List StackEntry} {o : Origin} (hany : stack.any (hasOrigin o) = true)
    (cause : StackCause) (port : Option Port) : popChange stack o cause port = some
      { cause := cause, port := port
        stack := if (withoutTopmost stack o).isEmpty then [{ index := 0, origin := .reset }] else withoutTopmost stack o
        discarded := none
        fallBack := (withoutTopmost stack o).isEmpty
        topChanged := (withoutTopmost stack o).isEmpty || stack.getLast?.any (hasOrigin o) } := by
  rw [popChange, if_pos hany]
  cases stack.getLast? <;> rfl

section Topmost

variable {stack below above : List StackEntry} {e : StackEntry} {o : Origin}
  (hsplit : stack = below ++ e :: above) (he : e.origin = o) (habove : ∀ f ∈ above, f.origin ≠ o)
include hsplit he habove

theorem withoutTopmost_split : withoutTopmost stack o = below ++ above := by
  have hother : ∀ f ∈ above.reverse, ¬ hasOrigin o f = true := fun f hf h =>
    habove f (List.mem_reverse.1 hf) (hasOrigin_eq_true.1 h)
  have hreverse : stack.reverse = above.reverse ++ e :: below.reverse := by rw [hsplit]; simp
  rw [withoutTopmost, hreverse, List.eraseP_append_right _ hother, List.eraseP_cons_of_pos (hasOrigin_eq_true.2 he)]
  simp

/-- The top entry is the one removed exactly where nothing stands above it. -/
theorem topmost_is_top : stack.getLast?.any (hasOrigin o) = decide (above = []) := by
  subst hsplit
  obtain rfl | ⟨middle, f, rfl⟩ := above.eq_nil_or_concat
  · simp [hasOrigin_eq_true.2 he]
  · have hlast : (below ++ e :: middle.concat f).getLast? = some f := by
      rw [List.concat_eq_append, ← List.cons_append, ← List.append_assoc, List.getLast?_concat]
    have hf : hasOrigin o f = false := hasOrigin_eq_false.2 (habove f (by simp))
    rw [hlast, Option.any_some, hf]
    simp

/-- The change of a removal, by what stood below and above the entry removed. -/
theorem popChange_split (cause : StackCause) (port : Option Port) : popChange stack o cause port = some
    { cause := cause, port := port
      stack := if below ++ above = [] then [{ index := 0, origin := .reset }] else below ++ above
      discarded := none
      fallBack := decide (below ++ above = [])
      topChanged := decide (above = []) } := by
  have hany : stack.any (hasOrigin o) = true :=
    List.any_eq_true.2 ⟨e, by simp [hsplit], hasOrigin_eq_true.2 he⟩
  have hempty : ∀ l : List StackEntry, l.isEmpty = decide (l = []) := fun l => by cases l <;> rfl
  have htop : (decide (below ++ above = []) || decide (above = [])) = decide (above = []) := by
    cases above <;> simp
  rw [popChange_present hany, withoutTopmost_split hsplit he habove, topmost_is_top hsplit he habove, hempty, htop]
  simp only [decide_eq_true_eq]

/-- A removal carried out: the report, then a re-evaluation where the top entry was the one removed (R99, R102). -/
theorem State.changeStack_popChange {s : State} {cause : StackCause} {port : Option Port} {c : StackChange}
    {left : List StackEntry} (hc : popChange stack o cause port = some c)
    (hleft : left = if below ++ above = [] then [{ index := 0, origin := .reset }] else below ++ above) :
    s.changeStack c =
      let raised := ({ s with stack := left } : State).raisedOnBoth 3 2 0x62#8 fun _ =>
        [byteOf (changeCode cause port + (if below ++ above = [] then 32 else 0) + (if above = [] then 64 else 0)),
          0xFF, byteOf left.length, optEntry left[0]?, optEntry left[1]?, optEntry left[2]?]
      if above = [] then raised.reevaluate else raised := by
  obtain rfl := Option.some.inj ((popChange_split hsplit he habove cause port).symm.trans hc)
  rw [State.changeStack_raisedOnBoth, stackBytes_eq]
  simp only [← hleft, mul_bitOf, decide_eq_true_eq]
  rfl

end Topmost

/-! ### PUSH and POP (R99, R100, R102) -/

section StackServed

variable {r : Request} {s : State} (hserved : s.serves r)
include hserved

theorem exec_push_served {i : ProfileNo} (hi : byteAt r 0 = some i.val) : exec (.push r) s = .next
    ((s.changeStack (pushChange s.stack { index := i, origin := .port r.port } .push
      (some r.port))).recomputeWarn.answer r 0x13#8 [[0]]) := by
  simp only [exec, execPush, profileOperand_eq hi]
  rw [State.request_served codePush _ _ hserved]
  rfl

theorem exec_pop_served : exec (.pop r) s = .next
    (match popChange s.stack (.port r.port) .pop (some r.port) with
      | none => s.answer r 0x14#8 [[0x85#8]]
      | some c => (s.changeStack c).recomputeWarn.answer r 0x14#8 [[0]]) := by
  simp only [exec, execPop]
  rw [State.request_served codePop _ _ hserved]
  cases popChange s.stack (.port r.port) .pop (some r.port) with
  | none => exact congrArg Host.Outcome.next (s.refuse_of_ne (code := codePop) r .notFound (by decide))
  | some c => rfl

end StackServed

/-- Settles O39: the stack is split at the topmost entry of the port's origin, where there is one. -/
theorem pushAndPopByOrigin : Obligations.PushAndPopByOrigin := by
  intro r s hserved
  refine ⟨fun i stack s2 hi hstack hs2 => ?push, fun habsent => ?absent,
    fun below e above stack s2 hsplit he habove hstack hs2 => ?removed⟩
  case push =>
    rw [exec_push_served hserved hi, State.changeStack_pushChange s _ .push (some r.port) hstack, hs2]
    rfl
  case absent => rw [exec_pop_served hserved, popChange_absent habsent]
  case removed =>
    have hc := popChange_split hsplit he habove .pop (some r.port)
    rw [exec_pop_served hserved, hc]
    dsimp only
    rw [State.changeStack_popChange hsplit he habove hc hstack, hs2]
    rfl

/-! ### BODY_DEBOUNCE_EXPIRY (R105, R106, R107) -/

/-- The body state as the debounced level leaves it, the timer stopped (R105). -/
def State.bodyFollowed (s : State) : State :=
  { s with bodyTimer := none, bodyState := if s.body then .raised else .lowered }

theorem exec_bodyDebounceExpiry (s : State) : exec .bodyDebounceExpiry s = .next
    (if ranOut s.bodyTimer s.tick Config.bodyDebounceTicks && s.body != (s.bodyState == .raised) then
      (if s.body then s.bodyFollowed.bodyRises else s.bodyFollowed.bodyFalls).recomputeWarn else s) := rfl

section BodyDue

variable {s s1 : State} {start : Tick} (hstart : s.bodyTimer = some start) (hdue : 5 ≤ (s.tick - start).toNat)
include hstart hdue

theorem exec_bodyDebounceExpiry_due (hdiffers : ¬ (s.body = true ↔ s.bodyState = .raised)) :
    exec .bodyDebounceExpiry s = .next
      (if s.body then s.bodyFollowed.bodyRises else s.bodyFollowed.bodyFalls).recomputeWarn := by
  have hout : ranOut s.bodyTimer s.tick Config.bodyDebounceTicks = true := by
    rw [hstart, ranOut_some]; exact decide_eq_true hdue
  have hlevel : (s.body != (s.bodyState == .raised)) = true :=
    (Bool.not_eq_false _).mp fun h => hdiffers (bodyState_differs.1 h)
  rw [exec_bodyDebounceExpiry, hout, hlevel]
  rfl

theorem exec_bodyDebounceExpiry_rises (hbody : s.body = true) (hlowered : s.bodyState = .lowered)
    (hs1 : s1 = { s with bodyTimer := none, bodyState := .raised }) :
    exec .bodyDebounceExpiry s = .next s1.bodyRises.recomputeWarn := by
  have hfollowed : s.bodyFollowed = s1 := by rw [hs1, State.bodyFollowed, hbody]; rfl
  rw [exec_bodyDebounceExpiry_due hstart hdue (by simp [hbody, hlowered]), if_pos hbody, hfollowed]

theorem exec_bodyDebounceExpiry_falls (hbody : s.body = false) (hraised : s.bodyState = .raised)
    (hs1 : s1 = { s with bodyTimer := none, bodyState := .lowered }) :
    exec .bodyDebounceExpiry s = .next s1.bodyFalls.recomputeWarn := by
  have hfollowed : s.bodyFollowed = s1 := by rw [hs1, State.bodyFollowed, hbody]; rfl
  rw [exec_bodyDebounceExpiry_due hstart hdue (by simp [hbody, hraised]), if_neg (by simp [hbody]), hfollowed]

end BodyDue

theorem exec_bodyDebounceExpiry_notDue {s : State} (h : s.bodyTimer = none ∨
    (∃ start, s.bodyTimer = some start ∧ (s.tick - start).toNat < 5) ∨ (s.body = true ↔ s.bodyState = .raised)) :
    exec .bodyDebounceExpiry s = .next s := by
  rw [exec_bodyDebounceExpiry]
  obtain hstopped | ⟨start, hstart, hearly⟩ | hsame := h
  · rw [hstopped]; rfl
  · have hrunning : ranOut s.bodyTimer s.tick Config.bodyDebounceTicks = false := by
      rw [hstart, ranOut_some]; exact decide_eq_false (Nat.not_le.2 hearly)
    rw [hrunning]; rfl
  · rw [bodyState_differs.2 hsame, Bool.and_false]; rfl

/-! What the body state does to the stack (R106, R107). -/

theorem State.bodyRises_none {s : State} (h : s.settings.tipping = none) : s.bodyRises = s := by
  rw [State.bodyRises, h]

theorem State.bodyRises_some {s : State} {i : ProfileNo} (h : s.settings.tipping = some i) :
    s.bodyRises = s.changeStack (pushChange s.stack { index := i, origin := .body } .bodyRaised none) := by
  rw [State.bodyRises, h]

theorem State.bodyFalls_absent {s : State} (h : ∀ e ∈ s.stack, e.origin ≠ .body) : s.bodyFalls = s := by
  rw [State.bodyFalls, popChange_absent h]

theorem State.bodyFalls_some {s : State} {c : StackChange} (h : popChange s.stack .body .bodyLowered none = some c) :
    s.bodyFalls = s.changeStack c := by
  rw [State.bodyFalls, h]

/-- Settles O26: both ways are a stack change of the state whose body state has followed the level. -/
theorem bodyExpiryPushesOrRemoves : Obligations.BodyExpiryPushesOrRemoves := by
  refine ⟨fun s => exec_bodyDebounceExpiry_notDue, fun s s1 start hstart hdue =>
    ⟨fun hbody hlowered hs1 => ?rises, fun hbody hraised hs1 => ?falls⟩⟩
  case rises =>
    rw [exec_bodyDebounceExpiry_rises hstart hdue hbody hlowered hs1]
    have htipping : s1.settings.tipping = s.settings.tipping := by rw [hs1]
    have hkept : s1.stack = s.stack := by rw [hs1]
    rw [← htipping, ← hkept]
    refine ⟨fun hnone => ?_, fun i stack s2 hsome hstack hs2 => ?_⟩
    · rw [State.bodyRises_none hnone]
    · rw [State.bodyRises_some hsome, State.changeStack_pushChange s1 _ .bodyRaised none hstack, hs2]
      rfl
  case falls =>
    rw [exec_bodyDebounceExpiry_falls hstart hdue hbody hraised hs1]
    have hkept : s1.stack = s.stack := by rw [hs1]
    rw [← hkept]
    refine ⟨fun habsent => ?_, fun below e above stack s2 hsplit he habove hstack hs2 => ?_⟩
    · rw [State.bodyFalls_absent habsent]
    · have hc := popChange_split hsplit he habove .bodyLowered none
      rw [State.bodyFalls_some hc, State.changeStack_popChange hsplit he habove hc hstack, hs2]
      rfl

/-! ### WRITE PROFILE: what the frame selects (R96, R181, R186) -/

/-- A WRITE PROFILE frame for profile `i` with byte 1 `b`: bits 7 and 6 the group, the other bits the mask (R186). -/
def profileWriteOf (r : Request) (i : ProfileNo) (b : Nat) : ProfileWrite :=
  { index := i
    enable := if b / 64 = 0 ∧ b.testBit 0 = true then wordAt r 2 else none
    uw := if b / 64 = 0 ∧ b.testBit 1 = true then wordAt r 4 else none
    uc := if b / 64 = 0 ∧ b.testBit 2 = true then wordAt r 6 else none
    ow := if b / 64 = 1 ∧ b.testBit 0 = true then wordAt r 2 else none
    hyst := if b / 64 = 1 ∧ b.testBit 1 = true then byteAt r 4 else none
    tw := if b / 64 = 1 ∧ b.testBit 2 = true then (byteAt r 5).map fun n => (n : Int) - 50 else none
    tc := if b / 64 = 1 ∧ b.testBit 3 = true then (byteAt r 6).map fun n => (n : Int) - 50 else none
    th := if b / 64 = 1 ∧ b.testBit 4 = true then byteAt r 7 else none
    ib := if b / 64 = 2 ∧ b.testBit 0 = true then wordAt r 2 else none
    lk := if b / 64 = 2 ∧ b.testBit 1 = true then byteAt r 4 else none }

theorem profileWriteOperand_eq {r : Request} {i : ProfileNo} {b : Nat} (hi : byteAt r 0 = some i.val)
    (hb : byteAt r 1 = some b) (hgroup : b / 64 < 3) : profileWriteOperand r = some (profileWriteOf r i b) := by
  unfold profileWriteOperand
  rw [profileOperand_eq hi, hb]
  obtain h | h | h : b / 64 = 0 ∨ b / 64 = 1 ∨ b / 64 = 2 := by omega
  all_goals simp [h, profileWriteOf, selected, temperatureAt]

/-- No field is selected and sent. -/
def ProfileWrite.SelectsNothing (w : ProfileWrite) : Prop :=
  w.enable = none ∧ w.uw = none ∧ w.uc = none ∧ w.ow = none ∧ w.hyst = none ∧ w.tw = none ∧ w.tc = none ∧
    w.th = none ∧ w.ib = none ∧ w.lk = none

theorem ProfileWrite.anySelected_iff {w : ProfileWrite} : w.anySelected = true ↔ ¬ w.SelectsNothing := by
  simp only [ProfileWrite.anySelected, ProfileWrite.SelectsNothing, Bool.or_eq_true, Option.isSome_iff_ne_none]
  tauto

/-! ### WRITE PROFILE: the record it gives (R93, R95) -/

theorem Profile.eq_of_fields {x y : Profile} (henable : x.enable = y.enable) (huw : x.uw = y.uw) (huc : x.uc = y.uc)
    (how : x.ow = y.ow) (hhyst : x.hyst = y.hyst) (htw : x.tw = y.tw) (htc : x.tc = y.tc) (hth : x.th = y.th)
    (hib : x.ib = y.ib) (hlk : x.lk = y.lk) : x = y := by
  cases x
  cases y
  simp_all

/-- Stage 1 changes nothing where every field is within its range. -/
theorem Profile.clampFields_eq_self {x : Profile} : x.clampFields = x ↔
    x.clampFields.uw = x.uw ∧ x.clampFields.uc = x.uc ∧ x.clampFields.ow = x.ow ∧ x.clampFields.hyst = x.hyst ∧
      x.clampFields.tw = x.tw ∧ x.clampFields.tc = x.tc ∧ x.clampFields.th = x.th ∧ x.clampFields.ib = x.ib ∧
      x.clampFields.lk = x.lk :=
  ⟨fun h => by simp only [h, and_self], fun ⟨huw, huc, how, hhyst, htw, htc, hth, hib, hlk⟩ =>
    Profile.eq_of_fields rfl huw huc how hhyst htw htc hth hib hlk⟩

/-- Stage 2 moves uc and tc alone. -/
theorem Profile.crossAdjust_eq_self {x : Profile} : x.crossAdjust = x ↔
    x.crossAdjust.uc = x.uc ∧ x.crossAdjust.tc = x.tc :=
  ⟨fun h => by simp only [h, and_self], fun ⟨huc, htc⟩ =>
    Profile.eq_of_fields rfl rfl huc rfl rfl rfl htc rfl rfl rfl⟩

/-- After stage 2 the two relations of R95 hold. -/
theorem Profile.crossAdjust_ordered {x : Profile} (h : x.Lawful) :
    x.crossAdjust.uc < x.crossAdjust.uw ∧ x.crossAdjust.tw + 5 ≤ x.crossAdjust.tc := by
  have huw := h.uw
  simp only [Profile.crossAdjust]
  constructor <;> split <;> omega

/-- What R95 says of the record `x` that a write makes of `old`: `uc` and `tc` are the values of stage 1. -/
structure ProfileWrite.Gives (w : ProfileWrite) (old x : Profile) (uc : Nat) (tc : Int) : Prop where
  enable : x.enable = (w.enable.map (BitVec.ofNat 10)).getD old.enable
  uw : x.uw = max 500 (min 990 (w.uw.getD old.uw))
  clampedUc : uc = max 400 (min 980 (w.uc.getD old.uc))
  uc : x.uc = if x.uw ≤ uc then x.uw - 10 else uc
  ow : x.ow = max 1010 (min 1500 (w.ow.getD old.ow))
  hyst : x.hyst = min 50 (w.hyst.getD old.hyst)
  tw : x.tw = max 40 (min 150 (w.tw.getD old.tw))
  clampedTc : tc = max 45 (min 160 (w.tc.getD old.tc))
  tc : x.tc = if tc < x.tw + 5 then x.tw + 5 else tc
  th : x.th = max 1 (min 20 (w.th.getD old.th))
  ib : x.ib = max 20 (min 300 (w.ib.getD old.ib))
  lk : x.lk = max 5 (min 200 (w.lk.getD old.lk))

/-- R95 leaves one record: the model's. -/
theorem ProfileWrite.Gives.eq_result {w : ProfileWrite} {old x : Profile} {uc : Nat} {tc : Int}
    (h : w.Gives old x uc tc) : x = (w.result old).1 := by
  have huc : x.uc = (w.result old).1.uc := by rw [h.uc, h.uw, h.clampedUc]; rfl
  have htc : x.tc = (w.result old).1.tc := by rw [h.tc, h.tw, h.clampedTc]; rfl
  have hhyst : x.hyst = (w.result old).1.hyst := h.hyst.trans (Nat.zero_max _).symm
  exact Profile.eq_of_fields h.enable h.uw huc h.ow hhyst h.tw htc h.th h.ib h.lk

/-- The write is answered CLAMPED unless stage 1 leaves the values written and stage 2 leaves uc and tc. -/
theorem ProfileWrite.result_clamps (w : ProfileWrite) (old : Profile) : (w.result old).2 = true ↔
    ¬ ((w.result old).1.uw = w.uw.getD old.uw ∧ (w.apply old).clampFields.uc = w.uc.getD old.uc ∧
      (w.result old).1.uc = (w.apply old).clampFields.uc ∧ (w.result old).1.ow = w.ow.getD old.ow ∧
      (w.result old).1.hyst = w.hyst.getD old.hyst ∧ (w.result old).1.tw = w.tw.getD old.tw ∧
      (w.apply old).clampFields.tc = w.tc.getD old.tc ∧ (w.result old).1.tc = (w.apply old).clampFields.tc ∧
      (w.result old).1.th = w.th.getD old.th ∧ (w.result old).1.ib = w.ib.getD old.ib ∧
      (w.result old).1.lk = w.lk.getD old.lk) := by
  have hflag : (w.result old).2 = true ↔ ¬ ((w.apply old).clampFields = w.apply old ∧
      (w.apply old).clampFields.crossAdjust = (w.apply old).clampFields) := by
    simp only [ProfileWrite.result, Bool.or_eq_true, bne_iff_ne, ne_eq, not_and_or]
  rw [hflag, Profile.clampFields_eq_self, Profile.crossAdjust_eq_self]
  exact not_congr ⟨
    fun ⟨⟨huw, huc, how, hhyst, htw, htc, hth, hib, hlk⟩, hucAdjusted, htcAdjusted⟩ =>
      ⟨huw, huc, hucAdjusted, how, hhyst, htw, htc, htcAdjusted, hth, hib, hlk⟩,
    fun ⟨huw, huc, hucAdjusted, how, hhyst, htw, htc, htcAdjusted, hth, hib, hlk⟩ =>
      ⟨⟨huw, huc, how, hhyst, htw, htc, hth, hib, hlk⟩, hucAdjusted, htcAdjusted⟩⟩

/-! ### WRITE PROFILE: what an accepted write does to the part (R96, R150) -/

theorem State.setProfile_self (s : State) (i : ProfileNo) : s.setProfile i (s.profile i) = s := by
  simp only [State.setProfile, State.profile, Vector.set_getElem_self]

section Applied

variable {s : State} {i : ProfileNo} {x : Profile}

theorem State.profile_applyProfile (j : ProfileNo) :
    (s.applyProfile i x).profile j = if j = i then x else s.profile j :=
  (State.profile_congr (congrArg Values.profiles (s.applyProfile_settles i x).values) j).trans
    (s.profile_setProfile i j x)

theorem State.applyProfile_same (hsame : x = s.profile i) : s.applyProfile i x = s.refreshIdle.recomputeWarn := by
  subst hsame
  simp only [State.applyProfile, if_pos, State.setProfile_self]

theorem State.applyProfile_inactive (hnew : x ≠ s.profile i) (hi : i ≠ s.activeIndex) :
    s.applyProfile i x = ((s.setProfile i x).mark .p).refreshIdle.recomputeWarn := by
  simp only [State.applyProfile, if_neg hnew, if_neg hi]

theorem State.applyProfile_active (hnew : x ≠ s.profile i) (hi : i = s.activeIndex) :
    s.applyProfile i x = ((s.setProfile i x).mark .p).reevaluate.refreshIdle.recomputeWarn := by
  simp only [State.applyProfile, if_neg hnew, if_pos hi]

end Applied

section WriteProfileServed

variable {r : Request} {s : State} {w : ProfileWrite} (hserved : s.servesHolder r)
  (hw : profileWriteOperand r = some w)
include hserved hw

theorem exec_writeProfile_blank (hblank : w.SelectsNothing) :
    exec (.writeProfile r) s = .next (s.refreshIdle.answer r 0x32#8 [[0]]) := by
  have hnone : ¬ w.anySelected = true := fun h => ProfileWrite.anySelected_iff.1 h hblank
  simp only [exec, execWriteProfile, hw]
  rw [State.edit_served codeWriteProfile _ _ hserved, if_neg hnone]
  rfl

theorem exec_writeProfile_applied (hsent : ¬ w.SelectsNothing) : exec (.writeProfile r) s =
    .next ((s.applyProfile w.index (w.result (s.profile w.index)).1).answer r 0x32#8
      [[if (w.result (s.profile w.index)).2 = true then 1 else 0]]) := by
  simp only [exec, execWriteProfile, hw]
  rw [State.edit_served codeWriteProfile _ _ hserved, if_pos (ProfileWrite.anySelected_iff.2 hsent), reply_clamped]
  rfl

end WriteProfileServed

theorem ite_one_zero_of_not {b : Bool} {p : Prop} [Decidable p] (h : b = true ↔ ¬ p) :
    (if b = true then (1 : Byte) else 0) = if p then 0 else 1 := by
  rw [if_congr h rfl rfl, ite_not]

/-- Settles O45: the fields given are those of the model's record, and its three ways of storing are the three cases. -/
theorem writeProfileClampsAndAdjusts : Obligations.WriteProfileClampsAndAdjusts := by
  rintro r s i b _ _ _ _ _ _ _ _ _ _ hserved hi hb hgroup rfl rfl rfl rfl rfl rfl rfl rfl rfl rfl
  have hw := profileWriteOperand_eq hi hb hgroup
  refine ⟨exec_writeProfile_blank hserved hw, fun hsent => ?applied⟩
  rintro _ x _ _ rfl henable huw rfl huc how hhyst htw rfl htc hth hib hlk
  have hgives : (profileWriteOf r i b).Gives (s.profile i) x _ _ :=
    ⟨henable, huw, rfl, huc, how, hhyst, htw, rfl, htc, hth, hib, hlk⟩
  obtain rfl := hgives.eq_result
  have hordered := Profile.crossAdjust_ordered (clampFields_lawful ((profileWriteOf r i b).apply (s.profile i)))
  refine ⟨ProfileWrite.result_lawful .., hordered.1, hordered.2, _, ?answered, ?written, fun j hj => ?others,
    State.applyProfile_same, State.applyProfile_inactive, State.applyProfile_active⟩
  case answered =>
    rw [exec_writeProfile_applied hserved hw hsent, ite_one_zero_of_not (ProfileWrite.result_clamps ..)]
    rfl
  case written => exact (State.profile_applyProfile i).trans (if_pos rfl)
  case others => exact (State.profile_applyProfile j).trans (if_neg hj)

end Sys2Proof.Machine
end

section
/-! PROOF. Conditions, latches and the WARN line: what a FLASH_PHASE and an ACK do, what every command leaves of the
captures, and how every command moves the WARN line: the statements O22, O37, O54 and O55. -/

namespace Sys2Proof.Machine

/-! ### FLASH_PHASE (R127) -/

section FlashStep

variable {w : Warn} {period width : Nat} {now : Tick}

theorem flashStep_newPhase (h : period ≤ span w.phaseStart now) :
    flashStep w period width now = { w with phaseStart := now, high := true } := if_pos h

theorem flashStep_low (hperiod : span w.phaseStart now < period) (hwidth : width ≤ span w.phaseStart now) :
    flashStep w period width now = { w with high := false } :=
  (if_neg (Nat.not_le.2 hperiod)).trans (if_pos hwidth)

theorem flashStep_kept (hperiod : span w.phaseStart now < period) (hwidth : span w.phaseStart now < width) :
    flashStep w period width now = w :=
  (if_neg (Nat.not_le.2 hperiod)).trans (if_neg (Nat.not_le.2 hwidth))

/-- The pattern moves phase and line, never the level. -/
theorem flashStep_level : (flashStep w period width now).level = w.level := by
  unfold flashStep
  split
  · rfl
  · split <;> rfl

end FlashStep

theorem exec_flashPhase_inFlash {s : State} (h : s.warn.level = .flash) : exec .flashPhase s = .next
    { s with warn := flashStep s.warn s.settings.flashPeriod s.settings.flashWidth s.tick } :=
  congrArg Host.Outcome.next (if_pos h)

theorem exec_flashPhase_notInFlash {s : State} (h : s.warn.level ≠ .flash) : exec .flashPhase s = .next s :=
  congrArg Host.Outcome.next (if_neg h)

/-- Settles O22: each moment of the pattern by its equation of `flashStep`. -/
theorem flashPhaseFollowsPattern : Obligations.FlashPhaseFollowsPattern := by
  refine fun s => ⟨exec_flashPhase_notInFlash, fun hflash hperiod => ?_, fun hflash hperiod hwidth => ?_,
    fun hflash hperiod hwidth => ?_⟩
  · rw [exec_flashPhase_inFlash hflash, flashStep_newPhase hperiod]
  · rw [exec_flashPhase_inFlash hflash, flashStep_low hperiod hwidth]
  · rw [exec_flashPhase_inFlash hflash, flashStep_kept hperiod hwidth]

/-! ### ACK (R123) -/

/-- The positions that an ACK names are listed once each (R123, R183). -/
theorem ackOperand_lists {r : Request} {named : Pos → Bool}
    (h : (byteAt r 0 = some 0xFF ∧ ∀ p, named p = true) ∨
      ∃ p : Pos, byteAt r 0 = some p.val ∧ ∀ q, named q = decide (q = p)) :
    ∃ ps, ackOperand r = some ps ∧ ps.Nodup ∧ ∀ p, ps.contains p = named p := by
  obtain ⟨hall, hnamed⟩ | ⟨p, hone, hnamed⟩ := h
  · refine ⟨allPositions, ?_, List.nodup_finRange 32, fun p => ?_⟩
    · rw [ackOperand, hall]; rfl
    · rw [hnamed p, List.contains_eq_mem]; exact decide_eq_true (List.mem_finRange p)
  · refine ⟨[p], ?_, List.nodup_singleton p, fun q => ?_⟩
    · have hnotAll : p.val ≠ 0xFF := by omega
      rw [ackOperand, hone, Option.bind_some, if_neg hnotAll, posOfCode, dif_pos p.isLt]; rfl
    · rw [hnamed q, List.contains_eq_mem, decide_eq_decide, List.mem_singleton]

/-- Positions listed once each are counted by a test as they are among all 32. -/
theorem length_filter_listed {ps : List Pos} {named : Pos → Bool} (hnodup : ps.Nodup)
    (hnamed : ∀ p, ps.contains p = named p) (f : Pos → Bool) :
    (ps.filter f).length = ((List.finRange 32).filter fun p => named p && f p).length := by
  refine List.Perm.length_eq ((List.perm_ext_iff_of_nodup (hnodup.filter _) ((List.nodup_finRange 32).filter _)).2
    fun p => ?_)
  rw [List.mem_filter, List.mem_filter, Bool.and_eq_true, ← hnamed, List.contains_eq_mem, decide_eq_true_iff]
  exact ⟨fun h => ⟨List.mem_finRange p, h⟩, fun h => h.2⟩

/-- An ACK served: the named positions acknowledged on the requesting port, the WARN level, the count answered. -/
theorem exec_ack_served {r : Request} {s : State} {ps : List Pos} (hserved : s.serves r)
    (hps : ackOperand r = some ps) : exec (.ack r) s = .next
      ((s.mapPos fun p x => if ps.contains p then x.acknowledge r.port else x).recomputeWarn.answer r 0x10#8
        [[0, byteOf (ps.filter fun p => (s.pos p).latched.get r.port != 0).length]]) := by
  simp only [exec, execAck, hps, State.request_served codeAck ps _ hserved]
  rfl

/-- Settles O37. -/
theorem ackEmptiesOwnSide : Obligations.AckEmptiesOwnSide := by
  intro r s named hserved hoperand
  obtain ⟨ps, hps, hnodup, hnamed⟩ := ackOperand_lists hoperand
  refine ⟨s.mapPos fun p x => if ps.contains p then x.acknowledge r.port else x, ?frame, fun p hp => ?other,
    fun p hp => ?named, ?answer⟩
  case frame => simp only [State.mapPos]
  case other => rw [State.pos_mapPos, hnamed, hp]; rfl
  case named => rw [State.pos_mapPos, hnamed, hp]; rfl
  case answer =>
    rw [exec_ack_served hserved hps, length_filter_listed hnodup hnamed]
    simp only [bne, beq_eq_decide, ne_eq, decide_not]

/-! ### The law of the captures (R119) -/

/-- A port's side of a position: its latched set and its capture. -/
def Position.sides (x : Position) : PerPort KindMask × PerPort (Option Capture) := (x.latched, x.capture)

/-- A capture is present on each side of a position exactly where its latched set is not empty (R119). -/
def Position.CaptureLawful (x : Position) : Prop :=
  ∀ port, (x.capture.get port).isSome = true ↔ x.latched.get port ≠ 0

theorem Position.CaptureLawful.of_sides {x y : Position} (hx : x.CaptureLawful) (h : y.sides = x.sides) :
    y.CaptureLawful := by
  obtain ⟨hlatched, hcapture⟩ := Prod.mk.inj h
  intro port
  rw [hlatched, hcapture]
  exact hx port

theorem Position.captureLawful_of_empty : Position.empty.CaptureLawful := by
  intro port
  cases port <;> decide

/-- A kind latched leaves a set that is not empty, with the capture it had or a new one (R120). -/
theorem Position.CaptureLawful.latch {x : Position} (hx : x.CaptureLawful) (k : Kind) (c : Capture) :
    (x.latch k c).CaptureLawful := by
  intro port
  rw [Position.latched_latch, Position.capture_latch]
  refine iff_of_true ?_ (addKind_ne_zero _ k)
  split
  · rfl
  · next hlatched => exact (hx port).2 hlatched

/-- An acknowledgement empties set and capture of its port, and leaves the other side (R123). -/
theorem Position.CaptureLawful.acknowledge {x : Position} (hx : x.CaptureLawful) (own : Port) :
    (x.acknowledge own).CaptureLawful := by
  intro port
  by_cases hport : port = own
  · subst hport
    simp only [Position.acknowledge, PerPort.get_set_same, Option.isSome_none, Bool.false_eq_true, ne_eq, not_true]
  · simp only [Position.acknowledge, PerPort.get_set_ne _ _ hport]
    exact hx port

/-- Positions whose sides are kept or emptied leave the law. -/
theorem State.CaptureLaw.of_sides {s t : State} (hs : s.CaptureLaw)
    (h : ∀ p, (t.pos p).sides = (s.pos p).sides ∨ (t.pos p).sides = Position.empty.sides) : t.CaptureLaw := by
  intro p
  obtain h | h := h p
  · exact Position.CaptureLawful.of_sides (hs p) h
  · exact Position.captureLawful_of_empty.of_sides h

theorem State.CaptureLaw.of_positions {s t : State} (hs : s.CaptureLaw) (h : t.positions = s.positions) :
    t.CaptureLaw := hs.of_sides fun p => .inl (by rw [State.pos_congr h])

theorem State.CaptureLaw.of_holdings {s t : State} (hs : s.CaptureLaw) (h : t.holdings = s.holdings) :
    t.CaptureLaw := hs.of_positions (State.holdings_positions h)

theorem State.CaptureLaw.setPos {s : State} (hs : s.CaptureLaw) (p : Pos) (x : Position)
    (hx : x.sides = (s.pos p).sides ∨ x.sides = Position.empty.sides) : (s.setPos p x).CaptureLaw := by
  refine hs.of_sides fun q => ?_
  rw [State.pos_setPos]
  split
  · next h => subst h; exact hx
  · exact .inl rfl

theorem State.CaptureLaw.dropPartnerImbalance {s : State} (hs : s.CaptureLaw) (p : Pos) :
    (s.dropPartnerImbalance p).CaptureLaw := hs.setPos _ _ (.inl rfl)

theorem State.CaptureLaw.latchAll {s : State} (hs : s.CaptureLaw) (cause : AlarmCause) (ts : List (Pos × Kind)) :
    (s.latchAll cause ts).CaptureLaw := by
  induction ts generalizing s with
  | nil => exact hs
  | cons t ts ih =>
    rw [State.latchAll_cons]
    refine ih fun q => ?_
    rw [State.pos_latchOne]
    split
    · exact Position.CaptureLawful.latch (hs t.1) t.2 _
    · exact hs q

/-! Re-evaluations and samples: live sets and figures change, then the transitions are latched. -/

theorem State.CaptureLaw.reevaluate {s : State} (hs : s.CaptureLaw) : s.reevaluate.CaptureLaw := by
  rw [State.reevaluate_eq_latchAll]
  refine State.CaptureLaw.latchAll (hs.of_sides fun p => .inl ?_) _ _
  rw [State.pos_retested]
  split
  · next hactive => rw [State.pos_recomputeAllPc, if_pos hactive, State.withPc_eq]; rfl
  · rfl

theorem State.CaptureLaw.settles {u t : State} (hu : u.CaptureLaw) (h : u.Settles t) : t.CaptureLaw := by
  obtain ⟨v, hv, ht | ht⟩ := h
  · exact (hu.of_holdings hv).of_holdings ht
  · exact (hu.of_holdings hv).reevaluate.of_holdings ht

theorem State.CaptureLaw.changeStack {s : State} (hs : s.CaptureLaw) (c : StackChange) :
    (s.changeStack c).CaptureLaw :=
  (hs.of_positions rfl : ({ s with stack := c.stack } : State).CaptureLaw).settles (s.changeStack_settles c)

theorem State.CaptureLaw.landNormally {s : State} (hs : s.CaptureLaw) (p : Pos) (d : Delivery) :
    (s.landNormally p d).CaptureLaw := by
  by_cases hp : (s.pos p).inService
  · have hplaced : (s.setPos p (s.withFigures d (supervise (s.pos p) d (landSample d (s.pos p))))).CaptureLaw :=
      hs.setPos _ _ (.inl (by rw [State.withFigures_eq]; rfl))
    have htested := hplaced.of_sides (t := State.sampleTested _ p) fun q => .inl (by rw [State.pos_sampleTested]; rfl)
    have hlatched := htested.latchAll .sample
    rw [State.landNormally_inService hp, State.accept_eq_ite]; dsimp only
    rw [State.evaluateSample_eq_latchAll]
    split
    · exact (hlatched _).of_positions rfl
    · exact hlatched _
  · rw [State.landNormally_notInService hp]; exact hs

/-! Expiry and hold. -/

theorem State.CaptureLaw.fallMissing {s : State} (hs : s.CaptureLaw) (p : Pos) : (s.fallMissing p).CaptureLaw := by
  rw [State.fallMissing_eq_latchAll]
  exact ((hs.setPos p (s.missingRecord (s.pos p)) (.inl rfl)).dropPartnerImbalance p).latchAll _ _

theorem State.CaptureLaw.takeHold {s : State} (hs : s.CaptureLaw) (p : Pos) : (s.takeHold p).CaptureLaw := by
  rw [State.takeHold_eq_setPos]
  exact (hs.setPos p (s.heldRecord (s.pos p)) (.inl rfl)).dropPartnerImbalance p

theorem State.CaptureLaw.restoreHold {s : State} (hs : s.CaptureLaw) (p : Pos) : (s.restoreHold p).CaptureLaw := by
  cases hbefore : (s.pos p).beforeHold with
  | none => rw [State.restoreHold_none hbefore]; exact hs
  | some st =>
    by_cases hst : st = .missing
    · subst hst
      rw [State.restoreHold_missing hbefore]
      exact (hs.setPos p (s.restoredMissing (s.pos p)) (.inl rfl)).latchAll _ _
    · rw [State.restoreHold_some hbefore hst]
      have hset : (s.setPos p (s.restoredTo (s.pos p) st)).CaptureLaw := hs.setPos _ _ (.inl rfl)
      split
      · exact hset.fallMissing p
      · exact hset

/-! Record resets, the walk, deliveries. -/

theorem State.CaptureLaw.recordReset {s : State} (hs : s.CaptureLaw) (p : Pos) (id : Option SensorId) :
    (s.recordReset p id).CaptureLaw := by
  rw [State.recordReset_eq_setPos]
  exact ((hs.setPos p (loadedPosition p id s.trailerPresent s.tick) (.inr rfl)).dropPartnerImbalance p).of_positions rfl

theorem State.CaptureLaw.teachReset {s : State} (hs : s.CaptureLaw) (p : Pos) (id : Option SensorId) :
    (s.teachReset p id).CaptureLaw := (hs.recordReset p id).of_positions rfl

theorem State.CaptureLaw.teachIgnored {s : State} (hs : s.CaptureLaw) (code : Byte) (id : SensorId) (p h : Pos) :
    (s.teachIgnored code id p h).CaptureLaw := hs.of_positions rfl

theorem State.CaptureLaw.advanceTeach {s : State} (hs : s.CaptureLaw) (t : TeachSession) (h : Pos)
    (rest : List Pos) (n : Nat) : (s.advanceTeach t h rest n).CaptureLaw :=
  hs.of_positions (by rw [State.advanceTeach_eq])

theorem State.CaptureLaw.teachConfirm {s : State} (hs : s.CaptureLaw) (t : TeachSession) (h : Pos)
    (rest : List Pos) (d : Delivery) : (s.teachConfirm t h rest d).CaptureLaw := by
  unfold State.teachConfirm; dsimp only
  refine (State.CaptureLaw.landNormally ?_ h d).advanceTeach t h rest _
  split
  · exact hs.restoreHold h
  · exact hs

theorem State.CaptureLaw.teachAssign {s : State} (hs : s.CaptureLaw) (t : TeachSession) (h : Pos)
    (rest : List Pos) (d : Delivery) (q : Option Pos) : (s.teachAssign t h rest d q).CaptureLaw := by
  cases q with
  | none => exact ((hs.teachReset h _).landNormally h d).advanceTeach t h rest _
  | some q => exact (((hs.teachReset q none).teachReset h _).landNormally h d).advanceTeach t h rest _

theorem State.CaptureLaw.teachTrigger {s : State} (hs : s.CaptureLaw) (t : TeachSession) (d : Delivery) :
    (s.teachTrigger t d).CaptureLaw := by
  unfold State.teachTrigger
  split
  · exact hs
  · split
    · split
      · exact hs.teachConfirm t _ _ d
      · split
        · exact (hs.landNormally _ d).teachIgnored _ _ _ _
        · split
          · exact (hs.landNormally _ d).teachIgnored _ _ _ _
          · exact hs.teachAssign t _ _ d _
    · split
      · exact (hs.of_positions (t := { s with foreign := foreignUpdate s.foreign d }) rfl).teachIgnored _ _ _ _
      · exact hs.teachAssign t _ _ d _

theorem State.CaptureLaw.deliver {s : State} (hs : s.CaptureLaw) (d : Delivery) : (s.deliver d).CaptureLaw := by
  have hwarned : ∀ {u : State}, u.CaptureLaw → u.recomputeWarn.CaptureLaw := fun hu =>
    hu.of_positions (State.recomputeWarn_positions _)
  unfold State.deliver
  split
  · split
    · exact hwarned (hs.teachTrigger _ d)
    · exact hs.of_positions rfl
  · split
    · exact hs
    · split
      · exact hwarned (hs.teachTrigger _ d)
      · exact hwarned (hs.landNormally _ d)

/-! The trailer, edits, the load, and every command. -/

theorem detach_sides (x : Position) : (detach x).sides = x.sides := by
  unfold detach
  split <;> rfl

theorem State.CaptureLaw.writesAxle {s : State} (hs : s.CaptureLaw) (w : AxleWrite) (k : AxleKind) :
    ((s.takeKind w.axle k).setAxle w.axle (s.axleWritten w k)).CaptureLaw := by
  refine hs.of_sides fun p => ?_
  rw [State.setAxle_pos, State.pos_takeKind]
  split
  · exact .inr rfl
  · split
    · exact .inl rfl
    · exact .inl rfl

theorem State.CaptureLaw.clears {s : State} (hs : s.CaptureLaw) (truck : Bool) :
    (s.clearVehicleSection truck).CaptureLaw := by
  refine hs.of_sides fun p => ?_
  rw [State.pos_clearVehicleSection]
  split
  · split
    · exact .inr rfl
    · split
      · exact .inl rfl
      · exact .inl rfl
  · exact .inl rfl

theorem State.CaptureLaw.startRunning {s : State} (hs : s.CaptureLaw) : s.startRunning.CaptureLaw :=
  hs.of_sides fun p => .inr (by rw [State.pos_startRunning]; rfl)

theorem State.CaptureLaw.moves {s u : State} {c : Instr} (hs : s.CaptureLaw) (h : s.Moves c u) : u.CaptureLaw := by
  cases h with
  | stays c => exact hs
  | restarts straps cut => exact reset_captureLaw.of_positions rfl
  | starts hp => exact hs.startRunning
  | startsRaised change hp hc => exact hs.startRunning.changeStack change
  | delivers c ready e later hm hh ht hg => exact (hs.of_holdings hh).deliver _
  | expires p hp => exact hs.fallMissing p
  | couples hp => exact hs.of_sides fun p => .inl (by rw [State.pos_recouple]; split <;> rfl)
  | decouples hp =>
    refine hs.of_sides fun p => .inl ?_
    rw [State.pos_decouple]
    split
    · rfl
    · exact detach_sides _
  | restacks c ready change hh hc => exact (hs.of_holdings hh).changeStack change
  | acknowledges r ps =>
    intro p
    rw [State.pos_mapPos]
    split
    · exact Position.CaptureLawful.acknowledge (hs p) r.port
    · exact hs p
  | holds r p hp => exact hs.takeHold p
  | unholds r p hp => exact hs.restoreHold p
  | writesPosition r p id hr hid => exact hs.recordReset p id
  | writesAxle r w k hr => exact (hs.writesAxle w k).settles (s.applyAxle_settles w k)
  | writesProfile r w hr =>
    exact (hs.of_positions rfl : (s.setProfile _ _).CaptureLaw).settles (s.applyProfile_settles _ _)
  | writesSettings r w x hr hx =>
    exact (hs.of_positions rfl : ({ s with settings := x } : State).CaptureLaw).settles (s.applySettings_settles x)
  | clears r truck hr => exact hs.clears truck
  | takesContext r hp =>
    exact (hs.of_positions rfl : ({ s with context := s.contextAfter r } : State).CaptureLaw).reevaluate
  | saturates => exact hs.of_sides fun p => .inl (by rw [State.pos_saturated]; rfl)

/-- Settles O54: each move of the wheel table keeps, empties or latches a side, set and capture together. -/
theorem stepKeepsCaptureLaw : Obligations.StepKeepsCaptureLaw := by
  intro s t hs hstep
  obtain hstays | ⟨c, rest, -, u, hmove, ht⟩ := step_moves hstep
  · exact hs.of_holdings hstays
  · have hrest : ({ s with pending := rest } : State).CaptureLaw := hs.of_positions rfl
    exact (hrest.moves hmove).of_holdings ht

/-! ### The WARN level of the counted kinds (R112, R125, R126) -/

theorem hasKind_or (m n : KindMask) (k : Kind) : hasKind (m ||| n) k = (hasKind m k || hasKind n k) :=
  BitVec.getLsbD_or

/-- A position counts its live set and the latched sets of the ports that the lamp setting names. -/
theorem hasKind_countedAt (lamp : LampPorts) (x : Position) (k : Kind) : hasKind (countedAt lamp x) k = true ↔
    hasKind x.live k = true ∨ (lamp = .onlyA ∨ lamp = .both) ∧ hasKind x.latched.a k = true ∨
      (lamp = .onlyB ∨ lamp = .both) ∧ hasKind x.latched.b k = true := by
  cases lamp with
  | noPort => simp [countedAt]
  | onlyA => simp [countedAt, hasKind_or]
  | onlyB => simp [countedAt, hasKind_or]
  | both => simp [countedAt, hasKind_or, or_assoc]

theorem hasKind_foldl_or {α : Type} (f : α → KindMask) (l : List α) (m : KindMask) (k : Kind) :
    hasKind (l.foldl (fun m x => m ||| f x) m) k = true ↔
      hasKind m k = true ∨ ∃ x ∈ l, hasKind (f x) k = true := by
  induction l generalizing m with
  | nil => simp
  | cons x l ih => rw [List.foldl_cons, ih, hasKind_or, Bool.or_eq_true, or_assoc, List.exists_mem_cons_iff]

theorem State.hasKind_counted (s : State) (k : Kind) : hasKind s.counted k = true ↔
    ∃ p, hasKind (countedAt s.settings.lampPorts (s.pos p)) k = true := by
  rw [State.counted, hasKind_foldl_or, hasKind_zero]
  simp [allPositions]

theorem any_severity {m : KindMask} {severity : Severity} :
    (allKinds.any fun k => hasKind m k && k.severity == severity) = true ↔
      ∃ k, k.severity = severity ∧ hasKind m k = true := by
  simp only [List.any_eq_true, mem_allKinds, true_and, Bool.and_eq_true, beq_iff_eq, and_comm]

section Level

variable {m : KindMask}

theorem levelOf_critical (hcritical : ∃ k : Kind, k.severity = .critical ∧ hasKind m k = true) :
    levelOf m = .flash := by
  rw [levelOf, highestSeverity, if_pos (any_severity.2 hcritical)]

theorem levelOf_warning (hcritical : ¬ ∃ k : Kind, k.severity = .critical ∧ hasKind m k = true)
    (hwarning : ∃ k : Kind, k.severity = .warning ∧ hasKind m k = true) : levelOf m = .steady := by
  rw [levelOf, highestSeverity, if_neg (any_severity.not.2 hcritical), if_pos (any_severity.2 hwarning)]

theorem levelOf_neither (hcritical : ¬ ∃ k : Kind, k.severity = .critical ∧ hasKind m k = true)
    (hwarning : ¬ ∃ k : Kind, k.severity = .warning ∧ hasKind m k = true) : levelOf m = .off := by
  rw [levelOf, highestSeverity, if_neg (any_severity.not.2 hcritical), if_neg (any_severity.not.2 hwarning)]
  split_ifs <;> rfl

/-- The level is FLASH where a CRITICAL kind is counted (R125). -/
theorem levelOf_eq_flash : levelOf m = .flash ↔ ∃ k : Kind, k.severity = .critical ∧ hasKind m k = true := by
  refine ⟨fun hflash => ?_, levelOf_critical⟩
  by_contra hcritical
  by_cases hwarning : ∃ k : Kind, k.severity = .warning ∧ hasKind m k = true
  · rw [levelOf_warning hcritical hwarning] at hflash; cases hflash
  · rw [levelOf_neither hcritical hwarning] at hflash; cases hflash

/-- The level is STEADY where a WARNING kind is counted and no CRITICAL one (R125). -/
theorem levelOf_eq_steady : levelOf m = .steady ↔
    (¬ ∃ k : Kind, k.severity = .critical ∧ hasKind m k = true) ∧
      ∃ k : Kind, k.severity = .warning ∧ hasKind m k = true := by
  refine ⟨fun hsteady => ?_, fun h => levelOf_warning h.1 h.2⟩
  have hcritical : ¬ ∃ k : Kind, k.severity = .critical ∧ hasKind m k = true := fun hcritical => by
    rw [levelOf_critical hcritical] at hsteady; cases hsteady
  refine ⟨hcritical, ?_⟩
  by_contra hwarning
  rw [levelOf_neither hcritical hwarning] at hsteady
  cases hsteady

end Level

/-- The CRITICAL kinds (R112). -/
theorem exists_critical {P : Kind → Prop} :
    (∃ k : Kind, k.severity = .critical ∧ P k) ↔ P .underC ∨ P .leak ∨ P .tempC := by
  constructor
  · rintro ⟨k, hk, h⟩
    cases k with
    | underC => exact .inl h
    | leak => exact .inr (.inl h)
    | tempC => exact .inr (.inr h)
    | _ => cases hk
  · rintro (h | h | h) <;> exact ⟨_, rfl, h⟩

/-- The WARNING kinds (R112). -/
theorem exists_warning {P : Kind → Prop} : (∃ k : Kind, k.severity = .warning ∧ P k) ↔
    P .underW ∨ P .overW ∨ P .tempW ∨ P .imbalance ∨ P .missing ∨ P .sensorFault := by
  constructor
  · rintro ⟨k, hk, h⟩
    cases k with
    | underW => exact .inl h
    | overW => exact .inr (.inl h)
    | tempW => exact .inr (.inr (.inl h))
    | imbalance => exact .inr (.inr (.inr (.inl h)))
    | missing => exact .inr (.inr (.inr (.inr (.inl h))))
    | sensorFault => exact .inr (.inr (.inr (.inr (.inr h))))
    | _ => cases hk
  · rintro (h | h | h | h | h | h) <;> exact ⟨_, rfl, h⟩

/-! ### The WARN line and the tick its pattern is drawn from

The level is recomputed at the end of a command. Every operation before that leaves the Warning Line Driver and the
tick alone, and so does every command that moves nothing the lamp counts. -/

/-- The Warning Line Driver and the tick counter. -/
def State.lampClock (s : State) : Warn × Tick := (s.warn, s.tick)

theorem lampClock_ite {p : Prop} [Decidable p] {s t u : State} (ht : t.lampClock = s.lampClock)
    (hu : u.lampClock = s.lampClock) : (if p then t else u).lampClock = s.lampClock := by
  split
  · exact ht
  · exact hu

@[simp] theorem State.lampClock_setPort (s : State) (p : Port) (c : PortCtl) :
    (s.setPort p c).lampClock = s.lampClock := rfl
@[simp] theorem State.lampClock_notice (s : State) (code : Byte) (data : List Byte) :
    (s.notice code data).lampClock = s.lampClock := rfl
@[simp] theorem State.lampClock_answer (s : State) (r : Request) (code : Byte) (frames : List (List Byte)) :
    (s.answer r code frames).lampClock = s.lampClock := by rw [State.answer_eq]; rfl
@[simp] theorem State.lampClock_reply (s : State) (r : Request) (code : Byte) (o : Reply) :
    (s.reply r code o).lampClock = s.lampClock := s.lampClock_answer r code _
@[simp] theorem State.lampClock_refuse (s : State) (r : Request) (code : Byte) (o : Reply) :
    (s.refuse r code o).lampClock = s.lampClock := by
  obtain ⟨frames, h⟩ := s.refuse_is_answer r code o
  rw [h, State.lampClock_answer]
@[simp] theorem State.lampClock_refreshIdle (s : State) : s.refreshIdle.lampClock = s.lampClock := by
  rw [State.refreshIdle_eq]; rfl
@[simp] theorem State.lampClock_mark (s : State) (n : SectionName) : (s.mark n).lampClock = s.lampClock := rfl
@[simp] theorem State.lampClock_mapPos (s : State) (f : Pos → Position → Position) :
    (s.mapPos f).lampClock = s.lampClock := by simp only [State.mapPos, State.lampClock]
@[simp] theorem State.lampClock_reevaluate (s : State) : s.reevaluate.lampClock = s.lampClock := by
  rw [State.reevaluate_eq]; rfl
@[simp] theorem State.lampClock_fallMissing (s : State) (p : Pos) : (s.fallMissing p).lampClock = s.lampClock := by
  rw [State.fallMissing_eq]; rfl
@[simp] theorem State.lampClock_takeHold (s : State) (p : Pos) : (s.takeHold p).lampClock = s.lampClock := by
  rw [State.takeHold_eq]; rfl
@[simp] theorem State.lampClock_restoreHold (s : State) (p : Pos) : (s.restoreHold p).lampClock = s.lampClock := by
  rw [State.restoreHold_eq]; rfl
@[simp] theorem State.lampClock_recordReset (s : State) (p : Pos) (id : Option SensorId) :
    (s.recordReset p id).lampClock = s.lampClock := rfl
@[simp] theorem State.lampClock_recouple (s : State) : s.recouple.lampClock = s.lampClock := by
  simp only [State.recouple, State.mapPos, State.lampClock]
@[simp] theorem State.lampClock_decouple (s : State) : s.decouple.lampClock = s.lampClock := by
  simp only [State.decouple, State.mapPos, State.lampClock]
@[simp] theorem State.lampClock_changeStack (s : State) (c : StackChange) :
    (s.changeStack c).lampClock = s.lampClock := by rw [State.changeStack_eq]; rfl
@[simp] theorem State.lampClock_startRunning (s : State) : s.startRunning.lampClock = s.lampClock := rfl
@[simp] theorem State.lampClock_saturated (s : State) : s.saturated.lampClock = s.lampClock := by
  rw [State.saturated_frame]; simp only [State.lampClock]
@[simp] theorem State.lampClock_endTeach (s : State) (o : TeachOutcome) :
    (s.endTeach o).lampClock = s.lampClock := by rw [State.endTeach_eq]; rfl
@[simp] theorem State.lampClock_removeFromTeach (s : State) (gone : Pos → Bool) (also : Bool) (o : TeachOutcome) :
    (s.removeFromTeach gone also o).lampClock = s.lampClock := by rw [State.removeFromTeach_eq]; rfl
@[simp] theorem State.lampClock_handover (s : State) : s.handover.lampClock = s.lampClock := by
  rw [State.handover_eq]; rfl
@[simp] theorem State.lampClock_endTenure (s : State) (p : Port) : (s.endTenure p).lampClock = s.lampClock := by
  rw [State.endTenure_eq]; rfl
@[simp] theorem State.lampClock_portReset (s : State) (p : Port) : (s.portReset p).lampClock = s.lampClock := by
  rw [State.portReset_eq]; rfl
@[simp] theorem State.lampClock_reportAxle (s : State) (p : Port) (a : AxleNo) :
    (s.reportAxle p a).lampClock = s.lampClock := by rw [State.reportAxle_eq]; rfl
@[simp] theorem State.lampClock_beginTenure (s : State) (p : Port) (waiting : List Port) :
    (s.beginTenure p waiting).lampClock = s.lampClock := rfl
@[simp] theorem State.lampClock_stopWaiting (s : State) (p : Port) : (s.stopWaiting p).lampClock = s.lampClock := rfl
@[simp] theorem State.lampClock_joinWaiting (s : State) (p : Port) : (s.joinWaiting p).lampClock = s.lampClock :=
  lampClock_ite rfl rfl
@[simp] theorem State.lampClock_takeKind (s : State) (a : AxleNo) (k : AxleKind) :
    (s.takeKind a k).lampClock = s.lampClock := lampClock_ite rfl (by rw [State.changeKind_eq]; rfl)
@[simp] theorem State.lampClock_settingsTaken (s : State) (x : Settings) :
    (s.settingsTaken x).lampClock = s.lampClock := by
  rw [State.settingsTaken, State.settingsMeasured_eq]; rfl

@[simp] theorem State.lampClock_clearVehicleSection (s : State) (truck : Bool) :
    (s.clearVehicleSection truck).lampClock = s.lampClock := by
  have hcleared : ((s.sectionAbsent truck).resetAll (allPositions.filter fun p => inTruck p == truck)).lampClock =
      s.lampClock := by rw [State.resetAll_eq]; rfl
  unfold State.clearVehicleSection; dsimp only
  rw [← State.sectionAbsent]
  exact lampClock_ite ((State.lampClock_removeFromTeach ..).trans hcleared)
    ((State.lampClock_removeFromTeach ..).trans hcleared)

@[simp] theorem State.lampClock_finishSection (s : State) (n : SectionName) (rest : List SectionName)
    (r : SaveResult) : (s.finishSection n rest r).lampClock = s.lampClock := by
  unfold State.finishSection; dsimp only
  cases r with
  | passedFirst => exact lampClock_ite (State.lampClock_handover _) rfl
  | passedSecond => exact lampClock_ite (State.lampClock_handover _) rfl
  | failedTwice => exact lampClock_ite (State.lampClock_handover _) rfl

@[simp] theorem State.lampClock_bodyRises (s : State) : s.bodyRises.lampClock = s.lampClock := by
  unfold State.bodyRises
  split
  · rfl
  · exact s.lampClock_changeStack _

@[simp] theorem State.lampClock_bodyFalls (s : State) : s.bodyFalls.lampClock = s.lampClock := by
  unfold State.bodyFalls
  split
  · rfl
  · exact s.lampClock_changeStack _

/-- A sample landed and a trigger taken leave the lamp to the end of the delivery. -/
theorem TeachChange.lampClock {s t : State} (h : TeachChange s t) : t.lampClock = s.lampClock := by
  obtain ⟨_, _, _, _, _, _, rfl⟩ := h
  rfl

theorem State.lampClock_request {α : Type} {s : State} {r : Request} {code : Byte} {ops : Option α}
    {own : α → State → State} (hown : ∀ x, (own x s).lampClock = s.lampClock) :
    (s.request r code ops own).lampClock = s.lampClock := by
  obtain h | ⟨o, h⟩ | ⟨-, x, -, h⟩ := s.request_cases r code ops own
  · rw [h]
  · rw [h, State.lampClock_refuse]
  · rw [h, hown]

theorem State.lampClock_edit {α : Type} {s : State} {r : Request} {code : Byte} {ops : Option α}
    {own : α → State → State} (hown : ∀ x, (own x s).lampClock = s.lampClock) :
    (s.edit r code ops own).lampClock = s.lampClock :=
  State.lampClock_request fun x => lampClock_ite (hown x) (s.lampClock_refuse r code .noGrant)

theorem exec_lampClock_of_event {c : Instr} {s t : State} (hc : (movesHoldings c || (requestOf c).isSome) = false)
    (hflash : c ≠ .flashPhase) (h : exec c s = .next t) : t.lampClock = s.lampClock := by
  cases c with
  | gapExpiry run => cases h; exact lampClock_ite rfl rfl
  | stepDeadlineExpiry =>
    cases h
    split
    · rfl
    · exact lampClock_ite (s.lampClock_endTeach _) rfl
  | trlChange high => cases h; rfl
  | bodyChange high => cases h; rfl
  | flashPhase => exact absurd rfl hflash
  | cyclicReport port =>
    cases h
    refine lampClock_ite ?_ rfl
    dsimp only
    split
    · rfl
    · rw [State.lampClock_setPort, State.lampClock_reportAxle, State.lampClock_setPort]
  | frameOffer port =>
    cases h
    refine lampClock_ite ?_ rfl
    split <;> rfl
  | attemptEnd port result =>
    cases h
    refine lampClock_ite ?_ rfl
    cases result with
    | success => rfl
    | lostArbitration => rfl
    | failure => exact lampClock_ite (s.lampClock_portReset port) rfl
  | busOffReturn port =>
    cases h
    dsimp only
    split
    · rfl
    · exact lampClock_ite rfl rfl
  | idleExpiry =>
    cases h
    split
    · exact lampClock_ite ((State.lampClock_endTenure ..).trans (s.lampClock_notice ..)) rfl
    · rfl
    · rfl
  | sectionSave result =>
    cases h
    refine lampClock_ite ?_ rfl
    split
    · rfl
    · exact s.lampClock_finishSection _ _ _
  | _ => cases hc

theorem exec_lampClock_of_request {c : Instr} {s t : State}
    (hc : (movesHoldings c || (requestOf c).isNone) = false) (h : exec c s = .next t) :
    t.lampClock = s.lampClock := by
  cases c with
  | readPosition r => cases h; exact State.lampClock_request fun _ => State.lampClock_answer ..
  | readAxle r => cases h; exact State.lampClock_request fun _ => State.lampClock_answer ..
  | readProfile r => cases h; exact State.lampClock_request fun _ => State.lampClock_answer ..
  | readSettings r => cases h; exact State.lampClock_request fun _ => State.lampClock_answer ..
  | readForeign r =>
    cases h
    refine State.lampClock_request fun i => ?_
    split
    · exact s.lampClock_refuse ..
    · exact s.lampClock_answer ..
  | readLineStatus r =>
    cases h
    exact State.lampClock_request fun q => (State.lampClock_answer ..).trans (lampClock_ite rfl rfl)
  | readStack r => cases h; exact State.lampClock_request fun _ => State.lampClock_answer ..
  | readStatus r => cases h; exact State.lampClock_request fun _ => State.lampClock_answer ..
  | grantRequest r =>
    cases h
    refine State.lampClock_request fun _ => ?_
    split
    · rw [State.lampClock_reply, State.lampClock_beginTenure]
    · exact lampClock_ite (by rw [State.lampClock_reply, State.lampClock_refreshIdle])
        (by rw [State.lampClock_reply, State.lampClock_joinWaiting])
    · rw [State.lampClock_reply, State.lampClock_joinWaiting]
  | grantRelease r =>
    cases h
    refine State.lampClock_request fun _ => lampClock_ite ?_ (lampClock_ite ?_ (s.lampClock_refuse ..))
    · rw [State.lampClock_reply, State.lampClock_endTenure]
    · rw [State.lampClock_reply, State.lampClock_stopWaiting]
  | lockTruck r =>
    cases h
    refine State.lampClock_edit fun _ => ?_
    rw [State.lampClock_reply, State.lampClock_refreshIdle]
    rfl
  | teachStart r =>
    cases h
    refine State.lampClock_edit fun codes => lampClock_ite (s.lampClock_refuse ..) ?_
    split
    · exact s.lampClock_refuse ..
    · exact State.lampClock_answer ..
  | teachAppend r =>
    cases h
    refine State.lampClock_edit fun codes => ?_
    split
    · exact s.lampClock_refuse ..
    · split
      · exact s.lampClock_refuse ..
      · exact State.lampClock_answer ..
  | teachAbort r =>
    cases h
    refine State.lampClock_edit fun _ => ?_
    split
    · exact s.lampClock_refuse ..
    · rw [State.lampClock_reply, State.lampClock_endTeach]
  | unknownRequest code r =>
    cases hcode : namesRequest code with
    | false =>
      rw [exec_unknownRequest hcode] at h
      cases h
      exact State.lampClock_request fun _ => rfl
    | true => rw [exec_unknownRequest_known hcode] at h; cases h
  | _ => cases hc

/-- The commands that move nothing the lamp counts leave it alone, but for FLASH_PHASE. -/
theorem exec_lampClock {c : Instr} {s t : State} (hc : movesHoldings c = false) (hflash : c ≠ .flashPhase)
    (h : exec c s = .next t) : t.lampClock = s.lampClock := by
  cases hrequest : requestOf c with
  | none => exact exec_lampClock_of_event (by rw [hc, hrequest]; rfl) hflash h
  | some codeAndFrame => exact exec_lampClock_of_request (by rw [hc, hrequest]; rfl) h

/-! ### What a command can do to the WARN line (R125 to R128) -/

/-- The Warning Line Driver brought to a level: FLASH entered afresh starts its pattern with the line high, and any
other level entered is shown at once (R125, R127). -/
def Warn.showing (w : Warn) (level : WarnLevel) (now : Tick) : Warn :=
  if level = w.level then w
  else { level := level, phaseStart := if level = .flash then now else w.phaseStart, high := level != .off }

theorem Warn.showing_same {w : Warn} {level : WarnLevel} {now : Tick} (h : level = w.level) :
    w.showing level now = w := if_pos h

theorem Warn.showing_new {w : Warn} {level : WarnLevel} {now : Tick} (h : level ≠ w.level) : w.showing level now =
    { level := level, phaseStart := if level = .flash then now else w.phaseStart, high := level != .off } := if_neg h

@[simp] theorem Warn.showing_level (w : Warn) (level : WarnLevel) (now : Tick) :
    (w.showing level now).level = level := by
  by_cases h : level = w.level
  · rw [Warn.showing_same h, h]
  · rw [Warn.showing_new h]

theorem State.recomputeWarn_warn (s : State) :
    s.recomputeWarn.warn = s.warn.showing (levelOf s.counted) s.tick :=
  apply_ite State.warn (levelOf s.counted = s.warn.level) s _

/-- The Warning Line Driver and the counted kinds after a command. -/
inductive State.LampMoves (s : State) : Instr → Warn → KindMask → Prop
  | keeps (c : Instr) : s.LampMoves c s.warn s.counted
  | recomputes (c : Instr) (counted : KindMask) :
    s.LampMoves c (s.warn.showing (levelOf counted) s.tick) counted
  | restarts (straps : BitVec 2) (cut : SaveCut) :
    s.LampMoves (.deviceReset straps cut) State.reset.warn State.reset.counted
  | flashes (h : s.warn.level = .flash) :
    s.LampMoves .flashPhase (flashStep s.warn s.settings.flashPeriod s.settings.flashWidth s.tick) s.counted
  | restartsPattern (r : Request) (counted : KindMask) (h : levelOf counted = .flash) :
    s.LampMoves (.writeSettings r) { level := .flash, phaseStart := s.tick, high := true } counted

/-- The state after `c` shows one of these moves. -/
def State.LampMovesTo (s : State) (c : Instr) (t : State) : Prop := s.LampMoves c t.warn t.counted

theorem State.counted_of_holdings {s t : State} (h : t.holdings = s.holdings) : t.counted = s.counted :=
  State.counted_congr (State.holdings_positions h) (congrArg (fun x => x.settings.lampPorts) h)

theorem State.LampMovesTo.of_lamp {s t u : State} {c : Instr} (h : s.LampMovesTo c t)
    (hclock : u.lampClock = t.lampClock) (hh : u.holdings = t.holdings) : s.LampMovesTo c u := by
  rw [State.LampMovesTo, State.counted_of_holdings hh, (Prod.mk.inj hclock).1]
  exact h

theorem State.LampMovesTo.keeps {s t : State} {c : Instr} (hclock : t.lampClock = s.lampClock)
    (hh : t.holdings = s.holdings) : s.LampMovesTo c t :=
  State.LampMovesTo.of_lamp (State.LampMoves.keeps c) hclock hh

/-- A level recomputed at the end of a command, with nothing before that touching the lamp. -/
theorem State.LampMovesTo.recomputes {s u : State} {c : Instr} (hclock : u.lampClock = s.lampClock) :
    s.LampMovesTo c u.recomputeWarn := by
  obtain ⟨hwarn, htick⟩ := Prod.mk.inj hclock
  rw [State.LampMovesTo, State.counted_of_holdings (State.holdings_recomputeWarn u), State.recomputeWarn_warn, hwarn,
    htick]
  exact .recomputes c u.counted

theorem State.LampMovesTo.answer {s u : State} {c : Instr} (h : s.LampMovesTo c u) (r : Request) (code : Byte)
    (frames : List (List Byte)) : s.LampMovesTo c (u.answer r code frames) :=
  h.of_lamp (u.lampClock_answer r code frames) (u.holdings_answer r code frames)

theorem State.LampMovesTo.reply {s u : State} {c : Instr} (h : s.LampMovesTo c u) (r : Request) (code : Byte)
    (o : Reply) : s.LampMovesTo c (u.reply r code o) := h.answer r code _

theorem State.lampMovesTo_refuse (s : State) (c : Instr) (r : Request) (code : Byte) (o : Reply) :
    s.LampMovesTo c (s.refuse r code o) := .keeps (s.lampClock_refuse r code o) (s.holdings_refuse r code o)

theorem State.lampMovesTo_reply (s : State) (c : Instr) (r : Request) (code : Byte) (o : Reply) :
    s.LampMovesTo c (s.reply r code o) := .keeps (s.lampClock_reply r code o) (s.holdings_reply r code o)

/-- An edit that changes nothing restarts the idle timer alone. -/
theorem State.lampMovesTo_refreshIdle (s : State) (c : Instr) (r : Request) (code : Byte) (o : Reply) :
    s.LampMovesTo c (s.refreshIdle.reply r code o) :=
  .reply (.keeps s.lampClock_refreshIdle s.holdings_refreshIdle) r code o

theorem lampMovesTo_ite {p : Prop} [Decidable p] {s t u : State} {c : Instr} (ht : s.LampMovesTo c t)
    (hu : s.LampMovesTo c u) : s.LampMovesTo c (if p then t else u) := by
  split
  · exact ht
  · exact hu

theorem State.LampMovesTo.request {α : Type} {s : State} {c : Instr} {r : Request} {code : Byte} {ops : Option α}
    {own : α → State → State} (hown : ∀ x, s.LampMovesTo c (own x s)) :
    s.LampMovesTo c (s.request r code ops own) := by
  obtain h | ⟨o, h⟩ | ⟨-, x, -, h⟩ := s.request_cases r code ops own
  · rw [h]; exact .keeps rfl rfl
  · rw [h]; exact s.lampMovesTo_refuse ..
  · rw [h]; exact hown x

theorem State.LampMovesTo.edit {α : Type} {s : State} {c : Instr} {r : Request} {code : Byte} {ops : Option α}
    {own : α → State → State} (hown : ∀ x, s.LampMovesTo c (own x s)) :
    s.LampMovesTo c (s.edit r code ops own) :=
  .request fun x => lampMovesTo_ite (hown x) (s.lampMovesTo_refuse ..)

/-- A delivery recomputes the level, unless it is dropped or goes to the Foreign Sensor List (R39 to R41, R128). -/
theorem State.lampMovesTo_deliver (s ready : State) {c : Instr} (hclock : ready.lampClock = s.lampClock)
    (hh : ready.holdings = s.holdings) (d : Delivery) : s.LampMovesTo c (ready.deliver d) := by
  have htaken : ∀ {u : State}, TeachChange ready u → s.LampMovesTo c u.recomputeWarn := fun hu =>
    .recomputes (hu.lampClock.trans hclock)
  have hkept : s.LampMovesTo c ready := .keeps hclock hh
  unfold State.deliver
  split
  · split
    · exact htaken (ready.teachTrigger_change _ d)
    · exact hkept
  · split
    · exact hkept
    · split
      · exact htaken (ready.teachTrigger_change _ d)
      · exact htaken (.of_landNormally ready _ d)

theorem State.lampMovesTo_takeCopy (s : State) (c : Instr) (i : Fin 4) (y : Line) (copy : Copy) :
    s.LampMovesTo c ((s.setLine i y).takeCopy copy) := by
  unfold State.takeCopy
  refine lampMovesTo_ite (.keeps rfl rfl) (lampMovesTo_ite (.keeps rfl rfl) ?_)
  split
  · exact .keeps rfl rfl
  · next e later hm =>
    exact (s.lampMovesTo_deliver { s.setLine i y with merge := later } rfl rfl e.delivery).of_lamp rfl rfl

theorem exec_receivedByte_lamp {s t : State} {i : Fin 4} {high : Bool} {v : Byte}
    (h : exec (.receivedByte i high v) s = .next t) : s.LampMovesTo (.receivedByte i high v) t := by
  cases h
  refine lampMovesTo_ite ?_ (.keeps rfl rfl)
  obtain ⟨y, hbyte | ⟨copy, -, hbyte⟩, -⟩ := s.takeByte_cases i v
  · rw [hbyte]; exact .keeps rfl rfl
  · rw [hbyte]; exact s.lampMovesTo_takeCopy _ i y copy

theorem exec_windowExpiry_lamp {s t : State} {id : SensorId} {seq : BitVec 4}
    (h : exec (.windowExpiry id seq) s = .next t) : s.LampMovesTo (.windowExpiry id seq) t := by
  cases h
  split
  · exact .keeps rfl rfl
  · next e later hm =>
    exact lampMovesTo_ite (s.lampMovesTo_deliver { s with merge := later } rfl rfl e.delivery) (.keeps rfl rfl)

theorem exec_hold_lamp {s t : State} {r : Request} (h : exec (.hold r) s = .next t) :
    s.LampMovesTo (.hold r) t := by
  cases h
  refine .request fun p => ?_
  have htaken : s.LampMovesTo (.hold r) ((s.takeHold p).recomputeWarn.reply r codeHold .done) :=
    .reply (.recomputes (s.lampClock_takeHold p)) r _ _
  split
  · exact s.lampMovesTo_refuse ..
  · exact s.lampMovesTo_refuse ..
  · exact s.lampMovesTo_reply ..
  · exact htaken
  · exact htaken
  · exact htaken

theorem State.lampMovesTo_applyAxle (s : State) (c : Instr) (w : AxleWrite) (k : AxleKind) :
    s.LampMovesTo c (s.applyAxle w k) := by
  have hkind := s.lampClock_takeKind w.axle k
  rw [State.applyAxle_eq]; dsimp only
  refine .recomputes ((State.lampClock_refreshIdle _).trans (lampClock_ite ?_ ?_))
  · exact lampClock_ite hkind hkind
  · exact (State.lampClock_reevaluate _).trans (lampClock_ite hkind hkind)

theorem State.lampMovesTo_applyProfile (s : State) (c : Instr) (i : ProfileNo) (x : Profile) :
    s.LampMovesTo c (s.applyProfile i x) := by
  unfold State.applyProfile; dsimp only
  refine .recomputes ((State.lampClock_refreshIdle _).trans (lampClock_ite rfl (lampClock_ite ?_ rfl)))
  exact State.lampClock_reevaluate _

theorem State.restartFlash_warn {s : State} (h : s.warn.level = .flash) :
    s.restartFlash.warn = { level := .flash, phaseStart := s.tick, high := true } := by
  rw [State.restartFlash, if_pos h, ← h]

theorem State.restartFlash_of_ne {s : State} (h : s.warn.level ≠ .flash) : s.restartFlash = s := if_neg h

/-- WRITE SETTINGS recomputes the level, then restarts the pattern where a flash value has changed (R126, R128). -/
theorem State.lampMovesTo_applySettings (s : State) (r : Request) (x : Settings) :
    s.LampMovesTo (.writeSettings r) (s.applySettings x) := by
  have hclock := s.lampClock_settingsTaken x
  have hrecomputed : s.LampMovesTo (.writeSettings r) (s.settingsTaken x).recomputeWarn := .recomputes hclock
  rw [State.applySettings_eq]
  refine lampMovesTo_ite hrecomputed ?_
  by_cases hflash : (s.settingsTaken x).recomputeWarn.warn.level = .flash
  · have hlevel : levelOf (s.settingsTaken x).recomputeWarn.counted = .flash := by
      rw [State.counted_of_holdings (State.holdings_recomputeWarn _), ← State.recomputeWarn_level, hflash]
    have htick : (s.settingsTaken x).recomputeWarn.tick = s.tick :=
      (State.recomputeWarn_tick _).trans (Prod.mk.inj hclock).2
    rw [State.LampMovesTo, State.counted_of_holdings (State.holdings_restartFlash _), State.restartFlash_warn hflash,
      htick]
    exact .restartsPattern r _ hlevel
  · rw [State.restartFlash_of_ne hflash]; exact hrecomputed

theorem State.counted_saturated (s : State) : s.saturated.counted = s.counted := by
  have hat : ∀ p, countedAt s.saturated.settings.lampPorts (s.saturated.pos p) =
      countedAt s.settings.lampPorts (s.pos p) := fun p => by
    rw [State.pos_saturated, State.saturated_frame]; rfl
  simp only [State.counted, hat]

theorem exec_writeAxle_lamp {s t : State} {r : Request} (h : exec (.writeAxle r) s = .next t) :
    s.LampMovesTo (.writeAxle r) t := by
  cases h
  refine .edit fun w => ?_
  dsimp only
  split
  · exact s.lampMovesTo_refuse ..
  · refine lampMovesTo_ite (s.lampMovesTo_refreshIdle ..) (lampMovesTo_ite (s.lampMovesTo_refuse ..) ?_)
    exact (s.lampMovesTo_applyAxle _ w _).reply ..

/-- Every command moves the WARN line in one of these ways. -/
theorem exec_lampMoves {c : Instr} {s t : State} (h : exec c s = .next t) : s.LampMovesTo c t := by
  by_cases hmoves : movesHoldings c = true
  · cases c with
    | deviceReset straps cut => cases h; exact .restarts straps cut
    | endOfStarting =>
      cases h
      refine lampMovesTo_ite (.recomputes (lampClock_ite ?_ s.lampClock_startRunning)) (.keeps rfl rfl)
      exact (State.lampClock_bodyRises _).trans s.lampClock_startRunning
    | receivedByte i high v => exact exec_receivedByte_lamp h
    | windowExpiry id seq => exact exec_windowExpiry_lamp h
    | deadlineExpiry p =>
      cases h; exact lampMovesTo_ite (.recomputes (s.lampClock_fallMissing p)) (.keeps rfl rfl)
    | trlDebounceExpiry =>
      cases h
      refine lampMovesTo_ite (.recomputes (lampClock_ite (State.lampClock_recouple _) ?_)) (.keeps rfl rfl)
      exact (State.lampClock_removeFromTeach ..).trans (State.lampClock_decouple _)
    | bodyDebounceExpiry =>
      cases h
      refine lampMovesTo_ite (.recomputes (lampClock_ite ?_ ?_)) (.keeps rfl rfl)
      · exact State.lampClock_bodyRises _
      · exact State.lampClock_bodyFalls _
    | ack r => cases h; exact .request fun ps => .answer (.recomputes (s.lampClock_mapPos _)) r _ _
    | hold r => exact exec_hold_lamp h
    | unhold r =>
      cases h
      exact .request fun p => lampMovesTo_ite (.reply (.recomputes (s.lampClock_restoreHold p)) r _ _)
        (s.lampMovesTo_reply ..)
    | push r => cases h; exact .request fun i => .reply (.recomputes (s.lampClock_changeStack _)) r _ _
    | pop r =>
      cases h
      refine .request fun _ => ?_
      split
      · exact s.lampMovesTo_refuse ..
      · exact .reply (.recomputes (s.lampClock_changeStack _)) r _ _
    | writePosition r =>
      cases h
      refine .edit fun w => lampMovesTo_ite (s.lampMovesTo_refuse ..) (lampMovesTo_ite (s.lampMovesTo_refuse ..) ?_)
      refine lampMovesTo_ite (.reply (.recomputes ?_) r _ _) (s.lampMovesTo_refreshIdle ..)
      rw [State.lampClock_refreshIdle, State.lampClock_mark, State.lampClock_recordReset]
    | writeAxle r => exact exec_writeAxle_lamp h
    | writeProfile r =>
      cases h
      exact .edit fun w => lampMovesTo_ite (.reply (s.lampMovesTo_applyProfile ..) r _ _)
        (s.lampMovesTo_refreshIdle ..)
    | writeSettings r =>
      cases h
      refine .edit fun w => ?_
      split
      · exact s.lampMovesTo_refuse ..
      · exact .reply (s.lampMovesTo_applySettings r _) r _ _
    | clearSection r =>
      cases h
      refine .edit fun truck => lampMovesTo_ite (s.lampMovesTo_refuse ..) (.reply (.recomputes ?_) r _ _)
      rw [State.lampClock_refreshIdle, State.lampClock_clearVehicleSection]
    | vehicleState r =>
      cases h; exact lampMovesTo_ite (.recomputes (State.lampClock_reevaluate _)) (.keeps rfl rfl)
    | keptTickSaturation =>
      obtain rfl : s.saturated = t := Host.Outcome.next.inj h
      rw [State.LampMovesTo, State.counted_saturated, (Prod.mk.inj s.lampClock_saturated).1]
      exact .keeps _
    | _ => cases hmoves
  · have hkeeps : movesHoldings c = false := Bool.not_eq_true _ ▸ hmoves
    by_cases hflash : c = .flashPhase
    · subst hflash
      by_cases hlevel : s.warn.level = .flash
      · obtain rfl := Host.Outcome.next.inj ((exec_flashPhase_inFlash hlevel).symm.trans h)
        exact .flashes hlevel
      · obtain rfl := Host.Outcome.next.inj ((exec_flashPhase_notInFlash hlevel).symm.trans h)
        exact .keeps rfl rfl
    · exact .keeps (exec_lampClock hkeeps hflash h) (exec_holdings hkeeps h)

/-! ### The law of the WARN line, and its pattern (R125 to R128) -/

/-- The line in a level that does not flash (R125). -/
def Warn.Shown (w : Warn) : Prop := (w.level = .steady → w.high = true) ∧ (w.level = .off → w.high = false)

theorem Warn.Shown.showing {w : Warn} (hw : w.Shown) (level : WarnLevel) (now : Tick) :
    (w.showing level now).Shown := by
  by_cases h : level = w.level
  · rw [Warn.showing_same h]; exact hw
  · rw [Warn.showing_new h]
    refine ⟨fun hsteady : level = .steady => ?_, fun hoff : level = .off => ?_⟩
    · subst hsteady; rfl
    · subst hoff; rfl

theorem State.LampMoves.level {s : State} {c : Instr} {w : Warn} {counted : KindMask}
    (hs : s.warn.level = levelOf s.counted) (h : s.LampMoves c w counted) : w.level = levelOf counted := by
  cases h with
  | keeps c => exact hs
  | recomputes c counted => exact Warn.showing_level ..
  | restarts straps cut => exact reset_lampLaw.level
  | flashes hflash => exact flashStep_level.trans hs
  | restartsPattern r counted hflash => exact hflash.symm

theorem State.LampMoves.shown {s : State} {c : Instr} {w : Warn} {counted : KindMask} (hs : s.warn.Shown)
    (h : s.LampMoves c w counted) : w.Shown := by
  cases h with
  | keeps c => exact hs
  | recomputes c counted => exact hs.showing ..
  | restarts straps cut => exact ⟨reset_lampLaw.steady, reset_lampLaw.dark⟩
  | flashes hflash =>
    unfold Warn.Shown
    rw [flashStep_level, hflash]
    exact ⟨nofun, nofun⟩
  | restartsPattern r counted hflash => exact ⟨nofun, nofun⟩

theorem State.LampLaw.lampMovesTo {s t : State} {c : Instr} (hs : s.LampLaw) (h : s.LampMovesTo c t) :
    t.LampLaw := by
  obtain ⟨hsteady, hdark⟩ := State.LampMoves.shown ⟨hs.steady, hs.dark⟩ h
  exact ⟨State.LampMoves.level hs.level h, hsteady, hdark⟩

/-- The law is one of the Warning Line Driver and the counted kinds. -/
theorem State.LampLaw.of_lamp {s t : State} (hs : s.LampLaw) (hwarn : t.warn = s.warn)
    (hcounted : t.counted = s.counted) : t.LampLaw := by
  refine ⟨?_, ?_, ?_⟩ <;> rw [hwarn]
  · rw [hcounted]; exact hs.level
  · exact hs.steady
  · exact hs.dark

/-- The passing of time leaves the lamp as it is. -/
theorem State.LampLaw.idle {s : State} (hs : s.LampLaw) : s.idle.LampLaw :=
  hs.of_lamp (by rw [State.idle_frame])
    (State.counted_congr (by rw [State.idle_frame]) (by rw [State.idle_frame]))

/-- FLASH is entered with the pattern at its start and the line high (R127). -/
theorem State.LampMoves.entersFlash {s : State} {c : Instr} {w : Warn} {counted : KindMask}
    (h : s.LampMoves c w counted) (hbefore : s.warn.level ≠ .flash) (hafter : w.level = .flash) :
    w.phaseStart = s.tick ∧ w.high = true := by
  cases h with
  | keeps c => exact absurd hafter hbefore
  | recomputes c counted =>
    rw [Warn.showing_level] at hafter
    rw [hafter, Warn.showing_new (Ne.symm hbefore)]
    exact ⟨rfl, rfl⟩
  | restarts straps cut => cases hafter
  | flashes hflash => exact absurd hflash hbefore
  | restartsPattern r counted hflash => exact ⟨rfl, rfl⟩

/-- In FLASH the pattern moves by FLASH_PHASE and by WRITE SETTINGS alone (R126, R127). -/
theorem State.LampMoves.staysInFlash {s : State} {c : Instr} {w : Warn} {counted : KindMask}
    (h : s.LampMoves c w counted) (hbefore : s.warn.level = .flash) (hafter : w.level = .flash)
    (hflash : c ≠ .flashPhase) (hwrite : ∀ r, c ≠ .writeSettings r) : w = s.warn := by
  cases h with
  | keeps c => rfl
  | recomputes c counted =>
    rw [Warn.showing_level] at hafter
    exact Warn.showing_same (hafter.trans hbefore.symm)
  | restarts straps cut => cases hafter
  | flashes h => exact absurd rfl hflash
  | restartsPattern r counted h => exact absurd rfl (hwrite r)

/-- On leaving FLASH the line takes the new level at once (R127). -/
theorem State.LampMoves.leavesFlash {s : State} {c : Instr} {w : Warn} {counted : KindMask}
    (h : s.LampMoves c w counted) (hbefore : s.warn.level = .flash) : w.Shown :=
  h.shown (by unfold Warn.Shown; rw [hbefore]; exact ⟨nofun, nofun⟩)

/-- Settles O55: the law and the pattern by the moves of the WARN line, the level by the severities of the kinds. -/
theorem stepKeepsLampLaw : Obligations.StepKeepsLampLaw := by
  refine ⟨fun s t hs hstep => ?law, fun c s t hexec => ?pattern, fun s counted hcounted => ?level⟩
  case law =>
    cases hpending : s.pending with
    | nil =>
      obtain rfl := Host.Outcome.next.inj ((step_of_pending_nil hpending).symm.trans hstep)
      exact hs.idle
    | cons c rest =>
      have hrest : ({ s with pending := rest } : State).LampLaw :=
        hs.of_lamp rfl (State.counted_congr rfl rfl)
      exact hrest.lampMovesTo (exec_lampMoves ((step_of_pending_eq hpending).symm.trans hstep))
  case pattern =>
    have hmoves : s.LampMoves c t.warn t.counted := exec_lampMoves hexec
    exact ⟨hmoves.entersFlash, hmoves.staysInFlash, fun hbefore => (hmoves.leavesFlash hbefore).1,
      fun hbefore => (hmoves.leavesFlash hbefore).2⟩
  case level =>
    have hkinds : ∀ k, hasKind s.counted k = true ↔ counted k := fun k => by
      rw [hcounted, State.hasKind_counted]
      simp only [hasKind_countedAt]
    rw [levelOf_eq_flash, levelOf_eq_steady]
    simp only [hkinds, exists_critical, exists_warning, and_self]

end Sys2Proof.Machine
end

section
/-! PROOF. The teach walk: what every command does to the session, the grant and the transmit queues, and the
statements O57, O48, O47. -/

namespace Sys2Proof.Machine

/-! ### The laws of a port controller (R172, R173, R177) -/

/-- A frame raised leaves the queue, or joins the end of it on an ACTIVE port, in the place of none or of one. -/
theorem PortCtl.queue_enqueue (c : PortCtl) (f : TxFrame) : (c.enqueue f).queue = c.queue ∨
    c.mode = .active ∧ ∃ q, q.Sublist c.queue ∧ (c.enqueue f).queue = q ++ [f] := by
  unfold PortCtl.enqueue
  split
  · split <;> exact .inl rfl
  · next hactive =>
    split
    · exact .inr ⟨hactive, _, .refl _, rfl⟩
    · split
      · exact .inl rfl
      · split
        · exact .inr ⟨hactive, _, List.eraseP_sublist, rfl⟩
        · exact .inl rfl

theorem PortCtl.Lawful.enqueue {c : PortCtl} (hc : c.Lawful) {f : TxFrame} (hf : f.sending = false) :
    (c.enqueue f).Lawful := by
  have hmode : (c.enqueue f).mode = c.mode := by rw [PortCtl.enqueue_eq]
  have herrors : (c.enqueue f).errors = c.errors := by rw [PortCtl.enqueue_eq]
  have hdue : (c.enqueue f).periodDue = c.periodDue := by rw [PortCtl.enqueue_eq]
  have hroom := c.enqueue_room f hc.room
  obtain hq | ⟨hactive, q, hsub, hq⟩ := c.queue_enqueue f
  · refine ⟨hroom, hq ▸ hc.one, herrors ▸ hc.errors, ?_⟩
    rw [hmode, hq, hdue, herrors]
    exact hc.silent
  · refine ⟨hroom, ?_, herrors ▸ hc.errors, fun h => absurd (hmode.trans hactive) h⟩
    rw [hq, List.filter_append, List.filter_singleton, hf]
    simpa using (hsub.filter _).length_le.trans hc.one

/-- What the laws say of a queue holds of every queue that has as many frames at most, and as many in transmission. -/
theorem PortCtl.Lawful.withQueue {c : PortCtl} (hc : c.Lawful) (hactive : c.mode = .active) {q : List TxFrame}
    {n : Nat} (hroom : q.length ≤ c.queue.length) (hone : (q.filter (·.sending)).length ≤ 1)
    (hn : n ≤ Config.errorMax) : ({ c with queue := q, errors := n } : PortCtl).Lawful :=
  ⟨hroom.trans hc.room, hone, hn, fun h => absurd hactive h⟩

/-- A port with a frame in transmission is ACTIVE. -/
theorem PortCtl.Lawful.active_of_sending {c : PortCtl} (hc : c.Lawful) (h : c.queue.any (·.sending) = true) :
    c.mode = .active := by
  by_contra hmode
  rw [(hc.silent hmode).1] at h
  cases h

theorem length_markFirst (i : FrameIdent) (q : List TxFrame) : (markFirst i q).length = q.length := by
  induction q with
  | nil => rfl
  | cons f rest ih =>
    unfold markFirst
    split
    · rfl
    · rw [List.length_cons, ih, List.length_cons]

/-- Of a queue with nothing in transmission one frame goes into it. -/
theorem sending_markFirst (i : FrameIdent) {q : List TxFrame} (h : q.any (·.sending) = false) :
    ((markFirst i q).filter (·.sending)).length ≤ 1 := by
  induction q with
  | nil => exact Nat.zero_le 1
  | cons f rest ih =>
    obtain ⟨hf, hrest⟩ := Bool.or_eq_false_iff.1 h
    have hidle : rest.filter (·.sending) = [] := by
      rw [List.filter_eq_nil_iff]
      exact List.any_eq_false.1 hrest
    unfold markFirst
    split
    · rw [List.filter_cons_of_pos rfl, hidle]; exact Nat.le_refl 1
    · rw [List.filter_cons_of_neg (Bool.not_eq_true _ ▸ hf)]; exact ih hrest

theorem sending_idleQueue (q : List TxFrame) : (idleQueue q).filter (·.sending) = [] := by
  rw [List.filter_eq_nil_iff]
  intro f hf
  obtain ⟨g, -, rfl⟩ := List.mem_map.1 hf
  nofun

theorem length_idleQueue (q : List TxFrame) : (idleQueue q).length = q.length := List.length_map _

theorem State.PortsLaw.setPort {s : State} (hs : s.PortsLaw) (p : Port) {c : PortCtl} (hc : c.Lawful) :
    (s.setPort p c).PortsLaw := fun k => by
  by_cases h : k = p
  · subst h; rw [State.port_setPort_same]; exact hc
  · rw [State.port_setPort_ne s c h]; exact hs k

theorem State.PortsLaw.of_ports {s t : State} (hs : s.PortsLaw) (h : t.ports = s.ports) : t.PortsLaw := fun k => by
  rw [State.port, h]; exact hs k

/-! ### What leaves the walk and the grant alone -/

/-- The session and the grant, with what their laws speak of: phase, positions that exist, trailer-present. -/
structure Tenure where
  phase : Phase
  posExists : Pos → Bool
  trailerPresent : Bool
  teach : Option TeachSession
  grant : Grant

def State.tenure (s : State) : Tenure :=
  { phase := s.phase, posExists := s.posExists, trailerPresent := s.trailerPresent, teach := s.teach, grant := s.grant }

theorem State.tenure_congr {s t : State} (hphase : t.phase = s.phase) (haxles : t.axles = s.axles)
    (htrailer : t.trailerPresent = s.trailerPresent) (hteach : t.teach = s.teach) (hgrant : t.grant = s.grant) :
    t.tenure = s.tenure := by
  have hexists : t.posExists = s.posExists := funext (State.posExists_congr haxles)
  rw [State.tenure, State.tenure, hphase, hexists, htrailer, hteach, hgrant]

/-- `t` stands to `s` as the state after something that leaves walk and grant alone, and the ports lawful. -/
structure State.KeepsTenure (s t : State) : Prop where
  tenure : t.tenure = s.tenure
  ports : s.PortsLaw → t.PortsLaw

theorem State.KeepsTenure.of_ports {s t : State} (h : t.tenure = s.tenure) (hp : t.ports = s.ports) : s.KeepsTenure t :=
  ⟨h, fun hs => hs.of_ports hp⟩

theorem State.KeepsTenure.refl (s : State) : s.KeepsTenure s := .of_ports rfl rfl

theorem State.KeepsTenure.trans {s t u : State} (h : s.KeepsTenure t) (k : t.KeepsTenure u) : s.KeepsTenure u :=
  ⟨k.tenure.trans h.tenure, fun hs => k.ports (h.ports hs)⟩

theorem keepsTenure_ite {p : Prop} [Decidable p] {s t u : State} (ht : p → s.KeepsTenure t)
    (hu : ¬ p → s.KeepsTenure u) : s.KeepsTenure (if p then t else u) := by
  split
  · next h => exact ht h
  · next h => exact hu h

/-- A lawful controller in the place of a port's. -/
theorem State.keepsTenure_setPort {s : State} (p : Port) {c : PortCtl} (hc : s.PortsLaw → c.Lawful) :
    s.KeepsTenure (s.setPort p c) := ⟨rfl, fun hs => hs.setPort p (hc hs)⟩

theorem State.keepsTenure_send (s : State) (p : Port) (pr : BitVec 3) (cls : BitVec 2) (code target : Byte)
    (data : List Byte) : s.KeepsTenure (s.send p pr cls code target data) :=
  State.keepsTenure_setPort p fun hs => (hs p).enqueue rfl

theorem State.keepsTenure_report (s : State) (p : Port) (pr : BitVec 3) (code : Byte) (data : List Byte) :
    s.KeepsTenure (s.report p pr code data) := s.keepsTenure_send ..

theorem State.keepsTenure_notice (s : State) (code : Byte) (data : List Byte) : s.KeepsTenure (s.notice code data) :=
  (s.keepsTenure_send ..).trans (State.keepsTenure_send ..)

theorem State.keepsTenure_answer (s : State) (r : Request) (code : Byte) (frames : List (List Byte)) :
    s.KeepsTenure (s.answer r code frames) := by
  induction frames generalizing s with
  | nil => exact .refl s
  | cons d ds ih => rw [State.answer_cons]; exact (s.keepsTenure_send ..).trans (ih _)

theorem State.keepsTenure_reply (s : State) (r : Request) (code : Byte) (o : Reply) :
    s.KeepsTenure (s.reply r code o) := s.keepsTenure_answer r code _

theorem State.keepsTenure_refuse (s : State) (r : Request) (code : Byte) (o : Reply) :
    s.KeepsTenure (s.refuse r code o) := by
  obtain ⟨frames, h⟩ := s.refuse_is_answer r code o
  rw [h]; exact s.keepsTenure_answer r code frames

theorem State.keepsTenure_recomputeWarn (s : State) : s.KeepsTenure s.recomputeWarn :=
  .of_ports (by rw [State.recomputeWarn_eq]; rfl) s.recomputeWarn_ports

/-! Positions: latching, tests, samples, holds, resets. -/

theorem State.keepsTenure_setPos (s : State) (p : Pos) (x : Position) : s.KeepsTenure (s.setPos p x) :=
  .of_ports rfl rfl

theorem State.keepsTenure_mapPos (s : State) (f : Pos → Position → Position) : s.KeepsTenure (s.mapPos f) :=
  .of_ports (State.tenure_congr (s.mapPos_phase f) (s.mapPos_axles f) (s.mapPos_trailerPresent f) (s.mapPos_teach f)
    (s.mapPos_grant f)) (s.mapPos_ports f)

theorem State.keepsTenure_latchOne (cause : AlarmCause) (s : State) (t : Pos × Kind) :
    s.KeepsTenure (s.latchOne cause t) :=
  (s.keepsTenure_setPos ..).trans ((State.keepsTenure_report ..).trans (State.keepsTenure_report ..))

theorem State.keepsTenure_latchAll (s : State) (cause : AlarmCause) (ts : List (Pos × Kind)) :
    s.KeepsTenure (s.latchAll cause ts) := by
  induction ts generalizing s with
  | nil => exact .refl s
  | cons t ts ih => rw [State.latchAll_cons]; exact (s.keepsTenure_latchOne cause t).trans (ih _)

theorem State.keepsTenure_reevaluate (s : State) : s.KeepsTenure s.reevaluate :=
  (s.keepsTenure_mapPos _).trans ((State.keepsTenure_mapPos _ _).trans (State.keepsTenure_latchAll ..))

theorem State.keepsTenure_evaluateSample (s : State) (p : Pos) : s.KeepsTenure (s.evaluateSample p) := by
  have htested : s.KeepsTenure (s.sampleTested p) := .of_ports rfl rfl
  rw [State.evaluateSample_eq_latchAll]
  exact htested.trans (State.keepsTenure_latchAll ..)

theorem State.keepsTenure_fallMissing (s : State) (p : Pos) : s.KeepsTenure (s.fallMissing p) := by
  have hmissing : ∀ x, s.KeepsTenure ((s.setPos p x).dropPartnerImbalance p) := fun _ => .of_ports rfl rfl
  rw [State.fallMissing_eq_latchAll]
  exact (hmissing _).trans (State.keepsTenure_latchAll ..)

theorem State.keepsTenure_takeHold (s : State) (p : Pos) : s.KeepsTenure (s.takeHold p) := .of_ports rfl rfl

theorem State.keepsTenure_restoreHold (s : State) (p : Pos) : s.KeepsTenure (s.restoreHold p) := by
  unfold State.restoreHold; dsimp only
  split
  · exact .refl s
  · exact (s.keepsTenure_setPos ..).trans (State.keepsTenure_latchAll ..)
  · exact keepsTenure_ite (fun _ => (s.keepsTenure_setPos ..).trans (State.keepsTenure_fallMissing ..)) fun _ =>
      s.keepsTenure_setPos ..

theorem State.keepsTenure_accept (s : State) (p : Pos) (d : Delivery) : s.KeepsTenure (s.accept p d) := by
  have hplaced : ∀ x, s.KeepsTenure ((s.setPos p x).evaluateSample p) := fun x =>
    (s.keepsTenure_setPos p x).trans (State.keepsTenure_evaluateSample ..)
  unfold State.accept; dsimp only
  exact keepsTenure_ite (fun _ => ((hplaced _).trans (State.keepsTenure_report ..)).trans (State.keepsTenure_report ..))
    fun _ => hplaced _

theorem State.keepsTenure_landNormally (s : State) (p : Pos) (d : Delivery) : s.KeepsTenure (s.landNormally p d) := by
  by_cases h : (s.pos p).inService
  · rw [State.landNormally_inService h]; exact s.keepsTenure_accept p d
  · rw [State.landNormally_notInService h]; exact .refl s

theorem State.keepsTenure_recordReset (s : State) (p : Pos) (id : Option SensorId) :
    s.KeepsTenure (s.recordReset p id) := .of_ports rfl rfl

theorem State.keepsTenure_changeStack (s : State) (c : StackChange) : s.KeepsTenure (s.changeStack c) := by
  have hstacked : s.KeepsTenure { s with stack := c.stack } := .of_ports rfl rfl
  have hreported := (hstacked.trans (State.keepsTenure_report _ .a 3 codeStackChanged (stackBytes c))).trans
    (State.keepsTenure_report _ .b 3 codeStackChanged (stackBytes c))
  exact keepsTenure_ite (fun _ => hreported.trans (State.keepsTenure_reevaluate _)) fun _ => hreported

theorem State.keepsTenure_bodyRises (s : State) : s.KeepsTenure s.bodyRises := by
  unfold State.bodyRises
  split
  · exact .refl s
  · exact s.keepsTenure_changeStack _

theorem State.keepsTenure_bodyFalls (s : State) : s.KeepsTenure s.bodyFalls := by
  unfold State.bodyFalls
  split
  · exact .refl s
  · exact s.keepsTenure_changeStack _

theorem State.keepsTenure_reportAxle (s : State) (port : Port) (a : AxleNo) : s.KeepsTenure (s.reportAxle port a) := by
  unfold State.reportAxle
  generalize s.visited a (s.settings.order.get port) 0 4 = ps
  induction ps generalizing s with
  | nil => exact .refl s
  | cons p ps ih => exact (s.keepsTenure_report ..).trans (ih _)

theorem State.keepsTenure_setLine (s : State) (i : Fin 4) (x : Line) : s.KeepsTenure (s.setLine i x) :=
  .of_ports rfl rfl

/-- Time moves only the tick and the waiting commands. -/
theorem State.keepsTenure_idle (s : State) : s.KeepsTenure s.idle := by
  rw [State.idle_frame]
  generalize s.idle.tick = tick, s.idle.pending = pending
  exact .of_ports rfl rfl

theorem State.keepsTenure_restartFlash (s : State) : s.KeepsTenure s.restartFlash :=
  keepsTenure_ite (fun _ => .of_ports rfl rfl) fun _ => .refl s

theorem State.keepsTenure_saturated (s : State) : s.KeepsTenure s.saturated := by
  have hframe := s.saturated_frame
  exact .of_ports (State.tenure_congr (by rw [hframe]) (by rw [hframe]) (by rw [hframe]) (by rw [hframe])
    (by rw [hframe]))
    (by rw [hframe])

theorem State.KeepsTenure.request {α : Type} {s : State} {r : Request} {code : Byte} {ops : Option α}
    {own : α → State → State} (hown : ∀ x, s.KeepsTenure (own x s)) : s.KeepsTenure (s.request r code ops own) := by
  obtain h | ⟨o, h⟩ | ⟨-, x, -, h⟩ := s.request_cases r code ops own
  · rw [h]; exact .refl s
  · rw [h]; exact s.keepsTenure_refuse r code o
  · rw [h]; exact hown x

/-! ### The laws of session, grant and ports together (R129, R145, R172, R177) -/

/-- The laws of the teach session, the grant and the ports. -/
structure State.WalkLaws (s : State) : Prop where
  teach : s.TeachLaw
  grant : s.GrantLaw
  ports : s.PortsLaw

theorem State.SessionLawful.of_tenure {s t : State} {x : TeachSession} (hs : s.SessionLawful x)
    (h : t.tenure = s.tenure) : t.SessionLawful x := by
  obtain ⟨-, hexists, htrailer, -, -⟩ := Tenure.mk.inj h
  exact { hs with
    existing := fun p hp => (congrFun hexists p).trans (hs.existing p hp)
    coupled := fun p hp => (hs.coupled p hp).imp_right htrailer.trans }

theorem State.GrantLaw.congr {s t : State} (hs : s.GrantLaw) (hgrant : t.grant = s.grant) (hteach : t.teach = s.teach)
    (hphase : t.phase = s.phase) : t.GrantLaw := by
  refine ⟨?_, ?_, ?_, ?_, ?_, ?_, ?_, ?_⟩ <;> simp only [hgrant, hteach, hphase]
  · exact hs.once
  · exact hs.holder
  · exact hs.free
  · exact hs.marks
  · exact hs.timer
  · exact hs.owner
  · exact hs.saving
  · exact hs.starting

/-- What leaves walk and grant alone leaves the laws. -/
theorem State.WalkLaws.keeps {s t : State} (hs : s.WalkLaws) (h : s.KeepsTenure t) : t.WalkLaws := by
  obtain ⟨hphase, -, -, hteach, hgrant⟩ := Tenure.mk.inj h.tenure
  refine ⟨⟨fun x hx => ?_, fun hp => ?_⟩, hs.grant.congr hgrant hteach hphase, h.ports hs.ports⟩
  · exact (hs.teach.session x (hteach ▸ hx)).of_tenure h.tenure
  · rw [hteach]; exact hs.teach.starting (hphase ▸ hp)

theorem State.KeepsTenure.teach {s t : State} (h : s.KeepsTenure t) : t.teach = s.teach :=
  congrArg Tenure.teach h.tenure

theorem State.KeepsTenure.grant {s t : State} (h : s.KeepsTenure t) : t.grant = s.grant :=
  congrArg Tenure.grant h.tenure

/-- A branch of an operation, each of whose ways leaves the laws. -/
theorem walkLaws_ite {p : Prop} [Decidable p] {t u : State} (ht : p → t.WalkLaws) (hu : ¬ p → u.WalkLaws) :
    (if p then t else u).WalkLaws := by
  split
  · next h => exact ht h
  · next h => exact hu h

/-! ### The session begins, goes on, ends (R129, R142, R147) -/

/-- The session exists no more, and the idle timer runs (R142). -/
def State.sessionEnded (s : State) : State :=
  { s with teach := none, grant := { s.grant with idleTimer := some s.tick } }

/-- The session stands as `t`, the idle timer stopped (R131, R147). -/
def State.sessionStands (s : State) (t : TeachSession) : State :=
  { s with teach := some t, grant := { s.grant with idleTimer := none } }

theorem State.endTeach_none {s : State} (h : s.teach = none) (o : TeachOutcome) : s.endTeach o = s := by
  unfold State.endTeach; rw [h]

theorem State.endTeach_eq_notice {s : State} {t : TeachSession} (h : s.teach = some t) (o : TeachOutcome) :
    s.endTeach o = s.sessionEnded.notice codeTeachEnd [o.code, byteOf t.count] := s.endTeach_some h o

/-- A held grant is no STARTING part's, and has nothing to save. -/
theorem State.GrantLaw.running {s : State} (hs : s.GrantLaw) {p : Port} (hheld : s.grant.state = .held p) :
    s.phase ≠ .starting := mt hs.starting (by rw [hheld]; nofun)

theorem State.GrantLaw.toSave_eq_nil {s : State} (hs : s.GrantLaw) (h : s.grant.state ≠ .saving) :
    s.grant.toSave = [] := by
  by_contra hne
  exact h (hs.saving.2 hne)

theorem State.GrantLaw.idleTimer_eq_none {s : State} (hs : s.GrantLaw)
    (h : (∀ p, s.grant.state ≠ .held p) ∨ s.teach ≠ none) : s.grant.idleTimer = none := by
  rw [← Option.not_isSome_iff_eq_none, hs.timer]
  rintro ⟨⟨p, hheld⟩, hnone⟩
  exact h.elim (fun h => h p hheld) fun h => h hnone

/-- There is no session without a holder. -/
theorem State.GrantLaw.teach_eq_none {s : State} (hs : s.GrantLaw) (h : ∀ p, s.grant.state ≠ .held p) :
    s.teach = none := by
  cases hteach : s.teach with
  | none => rfl
  | some t => exact absurd (hs.owner t hteach) (h t.owner)

/-- With a session the idle timer is stopped already. -/
theorem State.GrantLaw.sessionStands_eq {s : State} (hs : s.GrantLaw) {old : TeachSession} (h : s.teach = some old)
    (t : TeachSession) : s.sessionStands t = { s with teach := some t } := by
  have hidle := hs.idleTimer_eq_none (.inr (by rw [h]; nofun))
  unfold State.sessionStands
  rw [← hidle]

theorem State.GrantLaw.sessionEnded {s : State} (hs : s.GrantLaw) {p : Port} (hheld : s.grant.state = .held p) :
    s.sessionEnded.GrantLaw where
  once := hs.once
  holder := hs.holder
  free := hs.free
  marks := hs.marks
  timer := ⟨fun _ => ⟨⟨p, hheld⟩, rfl⟩, fun _ => rfl⟩
  owner := nofun
  saving := hs.saving
  starting := hs.starting

theorem State.GrantLaw.sessionStands {s : State} (hs : s.GrantLaw) {t : TeachSession}
    (howner : s.grant.state = .held t.owner) : (s.sessionStands t).GrantLaw where
  once := hs.once
  holder := hs.holder
  free := hs.free
  marks := hs.marks
  timer := ⟨nofun, fun h => nomatch h.2⟩
  owner x hx := by obtain rfl : t = x := Option.some.inj hx; exact howner
  saving := hs.saving
  starting := hs.starting

theorem State.walkLaws_sessionEnded {s : State} (hgrant : s.GrantLaw) (hports : s.PortsLaw) {p : Port}
    (hheld : s.grant.state = .held p) : s.sessionEnded.WalkLaws :=
  ⟨⟨nofun, fun _ => rfl⟩, hgrant.sessionEnded hheld, hports.of_ports rfl⟩

theorem State.walkLaws_sessionStands {s : State} (hgrant : s.GrantLaw) (hports : s.PortsLaw) {t : TeachSession}
    (ht : s.SessionLawful t) (howner : s.grant.state = .held t.owner) : (s.sessionStands t).WalkLaws := by
  refine ⟨⟨fun x hx => ?_, fun hp => absurd hp (hgrant.running howner)⟩, hgrant.sessionStands howner,
    hports.of_ports rfl⟩
  obtain rfl : t = x := Option.some.inj hx
  exact { ht with }

theorem State.WalkLaws.endTeach {s : State} (hs : s.WalkLaws) (o : TeachOutcome) : (s.endTeach o).WalkLaws := by
  cases h : s.teach with
  | none => rw [State.endTeach_none h]; exact hs
  | some t =>
    rw [State.endTeach_eq_notice h]
    exact (State.walkLaws_sessionEnded hs.grant hs.ports (hs.grant.owner t h)).keeps (State.keepsTenure_notice ..)

/-- The walk's head taught: what is left of a lawful session is lawful, or there is nothing left (R139). -/
theorem State.SessionLawful.advanced {s : State} {t : TeachSession} (ht : s.SessionLawful t) {h : Pos} {rest : List Pos}
    (hq : t.queue = h :: rest) (hrest : rest ≠ []) (deadline : Tick) : s.SessionLawful { t with
      queue := rest, taught := t.taught ++ [h], stepDeadline := deadline, count := min 255 (t.count + 1) } := by
  have hqueue := ht.queueOnce
  rw [hq, List.nodup_cons] at hqueue
  obtain ⟨hhead, honce⟩ := hqueue
  have hin : ∀ p ∈ rest, p ∈ t.queue := fun p hp => hq ▸ List.mem_cons_of_mem h hp
  have hfirst : h ∈ t.queue := hq ▸ List.mem_cons_self
  refine ⟨hrest, honce, ?taughtOnce, fun p hp => ?apart, fun p hp => ?existing, fun p hp => ht.coupled p (hin p hp),
    Nat.min_le_left ..⟩
  case taughtOnce => exact ht.taughtOnce.append (List.nodup_singleton h) (by simpa using ht.apart h hfirst)
  case apart =>
    rw [List.mem_append, List.mem_singleton]
    rintro (htaught | rfl)
    · exact ht.apart p (hin p hp) htaught
    · exact hhead hp
  case existing =>
    refine ht.existing p ?_
    rw [List.mem_append, hq]
    simp only [List.mem_append, List.mem_cons, List.not_mem_nil, or_false] at hp ⊢
    tauto

/-- The last head taught: TEACH PROGRESS and TEACH END, and the session is over (R139, R142). -/
theorem State.advanceTeach_nil (s : State) (t : TeachSession) (h : Pos) (n : Nat) : s.advanceTeach t h [] n =
    (s.sessionEnded.notice codeTeachProgress (progressBytes h (s.pos h).sensor n (min 255 (t.count + 1)) [])).notice
      codeTeachEnd [TeachOutcome.complete.code, byteOf (min 255 (t.count + 1))] := rfl

/-- Another head is next: TEACH PROGRESS, and the session goes on with a fresh step deadline (R139). -/
theorem State.advanceTeach_cons (s : State) (t : TeachSession) (h next : Pos) (rest : List Pos) (n : Nat) :
    s.advanceTeach t h (next :: rest) n = ({ s with teach := some { t with
        queue := next :: rest, taught := t.taught ++ [h], count := min 255 (t.count + 1)
        stepDeadline := after s.tick Config.teachStepTicks } } : State).notice codeTeachProgress
      (progressBytes h (s.pos h).sensor n (min 255 (t.count + 1)) (next :: rest)) := rfl

theorem State.WalkLaws.advanceTeach {s : State} (hs : s.WalkLaws) {t : TeachSession} (ht : s.teach = some t) {h : Pos}
    {rest : List Pos} (hq : t.queue = h :: rest) (n : Nat) : (s.advanceTeach t h rest n).WalkLaws := by
  have howner := hs.grant.owner t ht
  cases rest with
  | nil =>
    rw [State.advanceTeach_nil]
    exact (State.walkLaws_sessionEnded hs.grant hs.ports howner).keeps
      ((State.keepsTenure_notice ..).trans (State.keepsTenure_notice ..))
  | cons next rest =>
    have hsession := (hs.teach.session t ht).advanced hq nofun (after s.tick Config.teachStepTicks)
    rw [State.advanceTeach_cons, ← hs.grant.sessionStands_eq ht]
    exact (State.walkLaws_sessionStands hs.grant hs.ports hsession howner).keeps (State.keepsTenure_notice ..)

/-- Positions that leave the walk take the session's laws through what happens to the table at the same time: `v` is
the part after it, with walk and grant as in `s`. Those that stay in the session have to go on existing, and those that
stay in the queue to be coupled (R140, R141). -/
theorem State.WalkLaws.removeFromTeach {s v : State} (hs : s.WalkLaws) (hphase : v.phase = s.phase)
    (hteach : v.teach = s.teach) (hgrant : v.grant = s.grant) (hports : v.PortsLaw) {gone : Pos → Bool} {also : Bool}
    (hexists : ∀ p, s.posExists p = true → (also = true → gone p = false) → v.posExists p = true)
    (hcoupled : ∀ p, gone p = false → inTruck p = true ∨ s.trailerPresent = true →
      inTruck p = true ∨ v.trailerPresent = true) (o : TeachOutcome) : (v.removeFromTeach gone also o).WalkLaws := by
  have hv : v.GrantLaw := hs.grant.congr hgrant hteach hphase
  cases ht : s.teach with
  | none =>
    have hnone : v.teach = none := hteach.trans ht
    rw [State.removeFromTeach_none also o hnone gone]
    exact ⟨⟨fun t h => absurd (hnone.symm.trans h) nofun, fun _ => hnone⟩, hv, hports⟩
  | some t =>
    have hsome : v.teach = some t := hteach.trans ht
    have howner := hv.owner t hsome
    by_cases hq : (t.queue.filter fun p => !gone p) = []
    · rw [State.removeFromTeach_emptied also o hsome hq]
      exact (State.walkLaws_sessionEnded hv hports howner).keeps (State.keepsTenure_notice ..)
    · have hlaw := hs.teach.session t ht
      have hstays : ∀ p, p ∈ (t.queue.filter fun p => !gone p) → p ∈ t.queue ∧ gone p = false := fun p hp => by
        simpa using hp
      have htaught : ∀ p, p ∈ (t.without gone also v.tick).taught → p ∈ t.taught ∧ (also = true → gone p = false) := by
        intro p hp
        cases also with
        | false => exact ⟨hp, nofun⟩
        | true => exact ⟨(List.mem_filter.1 hp).1, fun _ => by simpa using (List.mem_filter.1 hp).2⟩
      rw [State.removeFromTeach_kept also o hsome hq, ← hv.sessionStands_eq hsome]
      refine State.walkLaws_sessionStands hv hports ⟨hq, hlaw.queueOnce.filter _, ?taughtOnce,
        fun p hp hin => hlaw.apart p (hstays p hp).1 (htaught p hin).1, fun p hp => ?existing,
        fun p hp => hcoupled p (hstays p hp).2 (hlaw.coupled p (hstays p hp).1), hlaw.count⟩ howner
      case taughtOnce =>
        cases also with
        | false => exact hlaw.taughtOnce
        | true => exact hlaw.taughtOnce.filter _
      case existing =>
        obtain hp | hp := List.mem_append.1 hp
        · obtain ⟨hin, hgone⟩ := hstays p hp
          exact hexists p (hlaw.existing p (List.mem_append_left _ hin)) fun _ => hgone
        · obtain ⟨hin, hgone⟩ := htaught p hp
          exact hexists p (hlaw.existing p (List.mem_append_right _ hin)) hgone

/-! ### A delivery (R39, R135 to R139) -/

/-- A changed mark belongs to a tenure (R145, R150). -/
theorem State.WalkLaws.mark {s : State} (hs : s.WalkLaws) {p : Port} (hheld : s.grant.state = .held p)
    (n : SectionName) : (s.mark n).WalkLaws :=
  ⟨⟨fun t ht => { hs.teach.session t ht with }, hs.teach.starting⟩,
    { hs.grant with marks := fun h => absurd hheld (h p) }, hs.ports.of_ports rfl⟩

theorem State.WalkLaws.teachReset {s : State} (hs : s.WalkLaws) {o : Port} (hheld : s.grant.state = .held o) (p : Pos)
    (id : Option SensorId) : (s.teachReset p id).WalkLaws :=
  (hs.keeps (s.keepsTenure_recordReset p id)).mark (p := o) hheld _

/-- The walk moves on from its head once the sample has landed there. -/
theorem State.WalkLaws.lands {s : State} (hs : s.WalkLaws) {t : TeachSession} (ht : s.teach = some t) {h : Pos}
    {rest : List Pos} (hq : t.queue = h :: rest) (d : Delivery) (n : Nat) :
    ((s.landNormally h d).advanceTeach t h rest n).WalkLaws :=
  have hlanded := s.keepsTenure_landNormally h d
  (hs.keeps hlanded).advanceTeach (hlanded.teach.trans ht) hq n

theorem State.keepsTenure_teachIgnored (s : State) (code : Byte) (id : SensorId) (p h : Pos) :
    s.KeepsTenure (s.teachIgnored code id p h) := s.keepsTenure_notice code _

section Trigger

variable {s : State} (hs : s.WalkLaws) {t : TeachSession} (ht : s.teach = some t)
include hs ht

theorem State.WalkLaws.teachConfirm {h : Pos} {rest : List Pos} (hq : t.queue = h :: rest) (d : Delivery) :
    (s.teachConfirm t h rest d).WalkLaws := by
  have hready : s.KeepsTenure (if (s.pos h).state = .held then s.restoreHold h else s) :=
    keepsTenure_ite (fun _ => s.keepsTenure_restoreHold h) fun _ => .refl s
  exact (hs.keeps hready).lands (hready.teach.trans ht) hq d 1

theorem State.WalkLaws.teachAssign {h : Pos} {rest : List Pos} (hq : t.queue = h :: rest) (d : Delivery)
    (q : Option Pos) : (s.teachAssign t h rest d q).WalkLaws := by
  have hassigned : ∀ u : State, u.WalkLaws → u.teach = some t → ∀ n,
      (((u.teachReset h (some d.id)).landNormally h d).advanceTeach t h rest n).WalkLaws := fun u hu htu n =>
    (hu.teachReset (hu.grant.owner t htu) h _).lands htu hq d n
  cases q with
  | none => exact hassigned s hs ht 5
  | some q => exact hassigned (s.teachReset q none) (hs.teachReset (hs.grant.owner t ht) q none) ht 4

theorem State.WalkLaws.teachTrigger (d : Delivery) : (s.teachTrigger t d).WalkLaws := by
  have hignored : ∀ (u : State) (code : Byte) (p h : Pos), s.KeepsTenure u →
      (u.teachIgnored code d.id p h).WalkLaws := fun u code p h hu =>
    hs.keeps (hu.trans (u.keepsTenure_teachIgnored code d.id p h))
  unfold State.teachTrigger
  split
  · exact hs
  · next h rest hq =>
    split
    · next q hholder =>
      refine walkLaws_ite (fun _ => hs.teachConfirm ht hq d) fun _ => ?_
      refine walkLaws_ite (fun _ => hignored _ _ _ _ (s.keepsTenure_landNormally q d)) fun _ => ?_
      exact walkLaws_ite (fun _ => hignored _ _ _ _ (s.keepsTenure_landNormally q d)) fun _ =>
        hs.teachAssign ht hq d (some q)
    · exact walkLaws_ite (fun _ => hignored { s with foreign := _ } _ _ _ (.of_ports rfl rfl)) fun _ =>
        hs.teachAssign ht hq d none

end Trigger

theorem State.WalkLaws.deliver {s : State} (hs : s.WalkLaws) (d : Delivery) : (s.deliver d).WalkLaws := by
  have htriggered : ∀ t, s.sessionFor d = some t → (s.teachTrigger t d).recomputeWarn.WalkLaws := fun t h =>
    (hs.teachTrigger (State.sessionFor_eq_some.1 h).2 d).keeps (State.keepsTenure_recomputeWarn _)
  unfold State.deliver
  split
  · split
    · next t ht => exact htriggered t ht
    · exact hs.keeps (.of_ports rfl rfl)
  · next p hp =>
    refine walkLaws_ite (fun _ => hs) fun _ => ?_
    split
    · next t ht => exact htriggered t ht
    · exact hs.keeps ((s.keepsTenure_landNormally p d).trans (State.keepsTenure_recomputeWarn _))

theorem State.WalkLaws.takeCopy {s : State} (hs : s.WalkLaws) (c : Copy) : (s.takeCopy c).WalkLaws := by
  have hopened : ∀ {u : State} (e : MergeEntry), u.WalkLaws → (u.openWindow e).WalkLaws := fun e hu =>
    hu.keeps (.of_ports rfl rfl)
  unfold State.takeCopy
  refine walkLaws_ite (fun _ => hs.keeps (.of_ports rfl rfl)) fun _ => walkLaws_ite (fun _ => hopened _ hs) fun _ => ?_
  split
  · exact hopened _ hs
  · next oldest rest hm =>
    have hclosed : s.KeepsTenure { s with merge := rest } := .of_ports rfl rfl
    exact hopened _ ((hs.keeps hclosed).deliver _)

theorem State.WalkLaws.takeByte {s : State} (hs : s.WalkLaws) (i : Fin 4) (v : Byte) : (s.takeByte i v).WalkLaws := by
  obtain ⟨y, hbyte | ⟨copy, -, hbyte⟩, -⟩ := s.takeByte_cases i v
  · rw [hbyte]; exact hs.keeps (s.keepsTenure_setLine i y)
  · rw [hbyte]; exact (hs.keeps (s.keepsTenure_setLine i y)).takeCopy copy

/-! ### The grant's tenures (R146 to R152, R178) -/

/-- There is no session. -/
theorem State.TeachLaw.of_none {s : State} (h : s.teach = none) : s.TeachLaw :=
  ⟨fun _ ht => absurd (h.symm.trans ht) nofun, fun _ => h⟩

/-- No tenure, or none any more: what is left is the list of the ports that wait. -/
structure State.Vacant (s : State) : Prop where
  phase : s.phase ≠ .starting
  teach : s.teach = none
  once : s.grant.waiting.Nodup
  marks : s.grant.marks = .all false
  timer : s.grant.idleTimer = none
  saved : s.grant.toSave = []
  ports : s.PortsLaw

/-- A tenure begins with no session, no mark and nothing to save (R146, R152). -/
theorem State.walkLaws_beginTenure {s : State} (hphase : s.phase ≠ .starting) (hteach : s.teach = none)
    (hsaved : s.grant.toSave = []) (hports : s.PortsLaw) {p : Port} {rest : List Port} (hlist : (p :: rest).Nodup) :
    (s.beginTenure p rest).WalkLaws := by
  obtain ⟨hout, honce⟩ := List.nodup_cons.1 hlist
  refine ⟨.of_none hteach, ⟨honce, fun q hq => ?_, nofun, fun h => absurd rfl (h p), ⟨fun _ => ⟨⟨p, rfl⟩, hteach⟩,
    fun _ => rfl⟩, fun t ht => absurd (hteach.symm.trans ht) nofun, ⟨nofun, fun h => absurd hsaved h⟩,
    fun h => absurd h hphase⟩, hports.of_ports rfl⟩
  cases hq
  exact hout

/-- The oldest waiter holds the grant, or nobody does (R152). -/
theorem State.Vacant.handover {s : State} (hs : s.Vacant) : s.handover.WalkLaws := by
  unfold State.handover
  split
  · next hnone =>
    exact ⟨.of_none hs.teach, ⟨hs.once, nofun, fun _ => hnone, fun _ => hs.marks,
      ⟨fun h => absurd h (by simp [hs.timer]), fun h => nomatch h.1⟩,
      fun t ht => absurd (hs.teach.symm.trans ht) nofun, ⟨nofun, fun h => absurd hs.saved h⟩, fun _ => rfl⟩,
      hs.ports.of_ports rfl⟩
  · next p rest hwaiting =>
    exact (State.walkLaws_beginTenure hs.phase hs.teach hs.saved hs.ports (hwaiting ▸ hs.once)).keeps
      (State.keepsTenure_notice ..)

theorem anyMark_eq_false {m : PerSection Bool} (h : ¬ anyMark m = true) : m = .all false := by
  obtain ⟨t, l, p⟩ := m
  obtain ⟨⟨rfl, rfl⟩, rfl⟩ : (t = false ∧ l = false) ∧ p = false := by simpa [anyMark] using h
  rfl

theorem sectionsToSave_ne_nil (m : PerSection Bool) : sectionsToSave m ≠ [] := by simp [sectionsToSave]

/-- The end of a session leaves the holder in place. -/
theorem State.endTeach_grant_state (s : State) (o : TeachOutcome) : (s.endTeach o).grant.state = s.grant.state := by
  rw [State.endTeach_eq]

/-- A tenure ended: the sections that changed are to be saved, or the next one waiting holds the grant (R151). -/
theorem State.WalkLaws.endTenure {s : State} (hs : s.WalkLaws) {p : Port} (hheld : s.grant.state = .held p) :
    (s.endTenure p).WalkLaws := by
  have hended := hs.endTeach .aborted
  have hstill : (s.endTeach .aborted).grant.state = .held p := (s.endTeach_grant_state .aborted).trans hheld
  have hteach : (s.endTeach .aborted).teach = none := by rw [State.endTeach_eq]
  unfold State.endTenure; dsimp only
  generalize s.endTeach .aborted = u at hended hstill hteach
  have hrunning := hended.grant.running hstill
  split
  · refine ⟨.of_none hteach, ⟨hended.grant.once, nofun, nofun, fun _ => rfl, ⟨nofun, fun h => nomatch h.1⟩,
      fun t ht => absurd (hteach.symm.trans ht) nofun, ⟨fun _ => sectionsToSave_ne_nil _, fun _ => rfl⟩,
      fun h => absurd h hrunning⟩, ?_⟩
    exact ((State.keepsTenure_notice _ _ _).ports (hended.ports.of_ports rfl)).of_ports rfl
  · next hmarks =>
    exact State.Vacant.handover ⟨hrunning, hteach, hended.grant.once, anyMark_eq_false hmarks, rfl,
      hended.grant.toSave_eq_nil (by rw [hstill]; nofun), hended.ports.of_ports rfl⟩

/-- Waiting ports leave or join the list. -/
theorem State.WalkLaws.stopWaiting {s : State} (hs : s.WalkLaws) (p : Port) : (s.stopWaiting p).WalkLaws :=
  ⟨⟨fun t ht => { hs.teach.session t ht with }, hs.teach.starting⟩, { hs.grant with
    once := hs.grant.once.filter _
    holder := fun q hq hin => hs.grant.holder q hq (List.mem_of_mem_filter hin)
    free := fun h => by rw [State.stopWaiting, hs.grant.free h]; rfl }, hs.ports.of_ports rfl⟩

/-- A port other than the holder waits, where the grant is not FREE (R146). -/
theorem State.WalkLaws.joinWaiting {s : State} (hs : s.WalkLaws) {p : Port} (hheld : s.grant.state ≠ .held p)
    (hfree : s.grant.state ≠ .free) : (s.joinWaiting p).WalkLaws := by
  refine walkLaws_ite (fun _ => hs) fun hout => ?_
  have hnew : p ∉ s.grant.waiting := by simpa using hout
  refine ⟨⟨fun t ht => { hs.teach.session t ht with }, hs.teach.starting⟩, { hs.grant with
    once := hs.grant.once.append (List.nodup_singleton p) (by simpa using hnew)
    holder := fun q hq hin => ?_
    free := fun h => absurd h hfree }, hs.ports.of_ports rfl⟩
  obtain hin | hin := List.mem_append.1 hin
  · exact hs.grant.holder q hq hin
  · obtain rfl := List.mem_singleton.1 hin
    exact hheld hq

/-- A port with nothing queued, no errors and no timer is lawful in every mode. -/
theorem PortCtl.lawful_silent (mode : PortMode) (nextAxle : AxleNo) (overflow : Bool) : PortCtl.Lawful
    { mode := mode, queue := [], errors := 0, periodDue := none, nextAxle := nextAxle, overflow := overflow } :=
  ⟨Nat.zero_le _, Nat.zero_le _, Nat.zero_le _, fun _ => ⟨rfl, rfl, rfl⟩⟩

/-- BUS-OFF: the port silent and empty, its tenure ended or its place in the list given up (R177, R178). -/
theorem State.WalkLaws.portReset {s : State} (hs : s.WalkLaws) (p : Port) : (s.portReset p).WalkLaws := by
  have hsilenced := hs.keeps (State.keepsTenure_setPort p fun _ => PortCtl.lawful_silent (.busOff s.tick) 0
    ((s.port p).overflow || (s.port p).queue.any fun f => !f.cyclic))
  unfold State.portReset State.grantPortReset; dsimp only
  exact walkLaws_ite (fun hheld => hsilenced.endTenure hheld) fun _ => hsilenced.stopWaiting p

/-- A section dealt with: the next is to be saved, or the next one waiting holds the grant (R152). -/
theorem State.WalkLaws.finishSection {s : State} (hs : s.WalkLaws) (hsaving : s.grant.state = .saving) (n : SectionName)
    (rest : List SectionName) (r : SaveResult) : (s.finishSection n rest r).WalkLaws := by
  have hgoes : ∀ u : State, s.KeepsTenure u → (if rest.isEmpty then
      ({ u with grant := { u.grant with toSave := rest } } : State).handover
      else { u with grant := { u.grant with toSave := rest } }).WalkLaws := by
    intro u hkept
    have hu := hs.keeps hkept
    have hsaving : u.grant.state = .saving := (congrArg Grant.state hkept.grant).trans hsaving
    have hnobody : ∀ p, u.grant.state ≠ .held p := fun p h => by rw [hsaving] at h; cases h
    have hrunning : u.phase ≠ .starting := mt hu.grant.starting (by rw [hsaving]; nofun)
    have hteach := hu.grant.teach_eq_none hnobody
    refine walkLaws_ite (fun hempty => ?_) fun hmore => ?_
    · exact State.Vacant.handover ⟨hrunning, hteach,
        hu.grant.once, hu.grant.marks hnobody, hu.grant.idleTimer_eq_none (.inl hnobody),
        List.isEmpty_iff.1 hempty, hu.ports.of_ports rfl⟩
    · exact ⟨.of_none hteach, { hu.grant with
        saving := ⟨fun _ => by simpa using hmore, fun _ => hsaving⟩ }, hu.ports.of_ports rfl⟩
  cases r with
  | passedFirst => exact hgoes _ (.of_ports rfl rfl)
  | passedSecond => exact hgoes _ (.of_ports rfl rfl)
  | failedTwice => exact hgoes _ (.of_ports rfl rfl)

/-- An accepted edit restarts the idle timer, which a session keeps stopped (R147). -/
theorem State.WalkLaws.refreshIdle {s : State} (hs : s.WalkLaws) {p : Port} (hheld : s.grant.state = .held p) :
    s.refreshIdle.WalkLaws := by
  refine walkLaws_ite (fun hnone => ?_) fun _ => hs
  have hteach : s.teach = none := Option.isNone_iff_eq_none.1 hnone
  have hended : s.sessionEnded = { s with grant := { s.grant with idleTimer := some s.tick } } := by
    rw [State.sessionEnded, ← hteach]
  exact hended ▸ State.walkLaws_sessionEnded hs.grant hs.ports hheld

/-! ### What the holder edits (R144, R153 to R157) -/

/-- The laws, and a tenure of port `p`: what an edit of the holder starts from and leaves. -/
structure State.HeldBy (s : State) (p : Port) : Prop where
  laws : s.WalkLaws
  holder : s.grant.state = .held p

theorem heldBy_ite {c : Prop} [Decidable c] {t u : State} {p : Port} (ht : c → t.HeldBy p) (hu : ¬ c → u.HeldBy p) :
    (if c then t else u).HeldBy p := by
  split
  · next h => exact ht h
  · next h => exact hu h

theorem State.HeldBy.keeps {s t : State} {p : Port} (hs : s.HeldBy p) (h : s.KeepsTenure t) : t.HeldBy p :=
  ⟨hs.laws.keeps h, (congrArg Grant.state h.grant).trans hs.holder⟩

theorem State.HeldBy.mark {s : State} {p : Port} (hs : s.HeldBy p) (n : SectionName) : (s.mark n).HeldBy p :=
  ⟨hs.laws.mark hs.holder n, hs.holder⟩

theorem State.HeldBy.refreshIdle {s : State} {p : Port} (hs : s.HeldBy p) : s.refreshIdle.HeldBy p :=
  ⟨hs.laws.refreshIdle hs.holder, s.refreshIdle_grant_state.trans hs.holder⟩

/-- How every accepted edit of the wheel table ends: the idle timer, the WARN level (R128, R147). -/
theorem State.HeldBy.settled {s : State} {p : Port} (hs : s.HeldBy p) : s.refreshIdle.recomputeWarn.HeldBy p :=
  hs.refreshIdle.keeps (State.keepsTenure_recomputeWarn _)

theorem State.keepsTenure_lowerAxle (s : State) (a : AxleNo) : s.KeepsTenure (s.lowerAxle a) := .of_ports rfl rfl

/-- A record with the kind of the one it replaces moves no position in or out of existence (R32). -/
theorem State.keepsTenure_setAxle (s : State) {a : AxleNo} {x : Axle} (h : x.kind = (s.axle a).kind) :
    s.KeepsTenure (s.setAxle a x) := by
  have hexists : (s.setAxle a x).posExists = s.posExists := funext fun p => by
    rw [State.posExists, State.posExists, State.axle_setAxle]
    split
    · next hp => rw [h, hp]
    · rfl
  refine .of_ports ?_ rfl
  rw [State.tenure, hexists]
  rfl

/-- What the reset of positions leaves for the walk. -/
theorem State.resetAll_walk (s : State) (ps : List Pos) : (s.resetAll ps).phase = s.phase ∧
    (s.resetAll ps).teach = s.teach ∧ (s.resetAll ps).grant = s.grant ∧ (s.resetAll ps).axles = s.axles ∧
    (s.resetAll ps).ports = s.ports ∧ (s.resetAll ps).trailerPresent = s.trailerPresent := by
  rw [State.resetAll_eq]
  exact ⟨rfl, rfl, rfl, rfl, rfl, rfl⟩

/-- A new kind takes its positions that stop existing out of the walk (R141). -/
theorem State.HeldBy.changeKind {s : State} {p : Port} (hs : s.HeldBy p) (a : AxleNo) (k : AxleKind) :
    (s.changeKind a k).HeldBy p := by
  refine ⟨?_, by rw [State.changeKind_eq]; exact hs.holder⟩
  obtain ⟨hphase, hteach, hgrant, haxles, hports, htrailer⟩ := (s.setAxle a { s.axle a with kind := k }).resetAll_walk
    (allPositions.filter (s.stopsExisting a k))
  have hwalked := hs.laws.removeFromTeach hphase hteach hgrant (hs.laws.ports.of_ports hports)
    (gone := s.stopsExisting a k) (also := true) ?hexists (fun p _ h => h.imp_right htrailer.trans) .complete
  · unfold State.changeKind; dsimp only
    exact walkLaws_ite (fun _ => hwalked.keeps (State.keepsTenure_lowerAxle _ a)) fun _ => hwalked
  case hexists =>
    intro q hq hstays
    rw [State.posExists_congr haxles, State.posExists, State.axle_setAxle]
    split
    · next ha =>
      have hslot := hstays rfl
      rw [State.stopsExisting, hq, ha] at hslot
      simpa using hslot
    · exact hq

theorem State.HeldBy.takeKind {s : State} {p : Port} (hs : s.HeldBy p) (a : AxleNo) (k : AxleKind) :
    (s.takeKind a k).HeldBy p := heldBy_ite (fun _ => hs) fun _ => hs.changeKind a k

theorem State.HeldBy.applyAxle {s : State} {p : Port} (hs : s.HeldBy p) (w : AxleWrite) (k : AxleKind) :
    (s.applyAxle w k).HeldBy p := by
  have hwritten := (hs.takeKind w.axle k).keeps
    (State.keepsTenure_setAxle _ (x := s.axleWritten w k) (by rw [State.axle_takeKind_same]; rfl))
  have hmarked := heldBy_ite (c := s.axleWritten w k = s.axle w.axle) (fun _ => hwritten) fun _ =>
    hwritten.mark (sectionOf (truckAxle w.axle))
  rw [State.applyAxle_eq]; dsimp only
  exact (heldBy_ite (fun _ => hmarked) fun _ => hmarked.keeps (State.keepsTenure_reevaluate _)).settled

/-- A section cleared: its positions are in the walk no more, and the others go on existing (R141, R155). -/
theorem State.HeldBy.clearVehicleSection {s : State} {p : Port} (hs : s.HeldBy p) (truck : Bool) :
    (s.clearVehicleSection truck).HeldBy p := by
  obtain ⟨hphase, hteach, hgrant, haxles, hports, htrailer⟩ := (s.sectionAbsent truck).resetAll_walk
    (allPositions.filter fun p => inTruck p == truck)
  have hwalked := hs.laws.removeFromTeach hphase hteach hgrant (hs.laws.ports.of_ports hports)
    (gone := fun p => inTruck p == truck && s.posExists p) (also := true) ?hexists
    (fun p _ h => h.imp_right htrailer.trans) .complete
  · have hcleared := State.HeldBy.mk (p := p) hwalked (by
      rw [State.removeFromTeach_eq]; exact (congrArg Grant.state hgrant).trans hs.holder)
    unfold State.clearVehicleSection; dsimp only
    exact heldBy_ite (fun _ => hcleared.mark _) fun _ => hcleared
  case hexists =>
    intro q hq hstays
    have hother := hstays rfl
    rw [hq, Bool.and_true, beq_eq_false_iff_ne] at hother
    rw [State.posExists_congr haxles, State.posExists, State.axle_sectionAbsent, ← inTruck_eq_truckAxle, if_neg hother]
    exact hq

theorem State.keepsTenure_setProfile (s : State) (i : ProfileNo) (x : Profile) : s.KeepsTenure (s.setProfile i x) :=
  .of_ports rfl rfl

theorem State.HeldBy.applyProfile {s : State} {p : Port} (hs : s.HeldBy p) (i : ProfileNo) (x : Profile) :
    (s.applyProfile i x).HeldBy p := by
  have hstored := hs.keeps (s.keepsTenure_setProfile i x)
  unfold State.applyProfile; dsimp only
  exact (heldBy_ite (fun _ => hstored) fun _ => heldBy_ite
    (fun _ => (hstored.mark .p).keeps (State.keepsTenure_reevaluate _)) fun _ => hstored.mark .p).settled

theorem State.portsLaw_of_both {s : State} (ha : s.ports.a.Lawful) (hb : s.ports.b.Lawful) : s.PortsLaw
  | .a => ha
  | .b => hb

/-- A period timer restarted runs on an ACTIVE port alone, as before. -/
theorem PortCtl.Lawful.restartPeriod {c : PortCtl} (hc : c.Lawful) (changed : Bool) (now : Tick) (period : Nat) :
    (c.restartPeriod changed now period).Lawful := by
  unfold PortCtl.restartPeriod
  split
  · refine { hc with silent := fun h => ?_ }
    obtain ⟨hqueue, hdue, herrors⟩ := hc.silent h
    exact ⟨hqueue, by rw [hdue]; rfl, herrors⟩
  · exact hc

theorem State.HeldBy.applySettings {s : State} {p : Port} (hs : s.HeldBy p) (x : Settings) :
    (s.applySettings x).HeldBy p := by
  have hrestarted := hs.keeps (t := { s with
      settings := x
      ports :=
        { a := s.ports.a.restartPeriod (x.reportPeriod.a != s.settings.reportPeriod.a) s.tick x.reportPeriod.a
          b := s.ports.b.restartPeriod (x.reportPeriod.b != s.settings.reportPeriod.b) s.tick x.reportPeriod.b } })
    ⟨rfl, fun h => State.portsLaw_of_both ((h .a).restartPeriod ..) ((h .b).restartPeriod ..)⟩
  have hmarked := heldBy_ite (c := x = s.settings) (fun _ => hrestarted) fun _ => hrestarted.mark .p
  have hmeasured := (heldBy_ite (c := x.tref = s.settings.tref) (fun _ => hmarked) fun _ =>
    hmarked.keeps (State.keepsTenure_reevaluate _)).settled
  unfold State.applySettings; dsimp only
  exact heldBy_ite (fun _ => hmeasured) fun _ => hmeasured.keeps (State.keepsTenure_restartFlash _)

/-! ### The trailer follows its input (R48, R140) -/

/-- With the trailer there, every position in the queue is coupled. -/
theorem State.WalkLaws.recouple {s : State} (hs : s.WalkLaws) : s.recouple.WalkLaws := by
  rw [State.recouple_eq]
  generalize s.recouple.positions = positions
  exact ⟨⟨fun t ht => { hs.teach.session t ht with coupled := fun _ _ => .inr rfl }, hs.teach.starting⟩,
    hs.grant.congr rfl rfl rfl, hs.ports.of_ports rfl⟩

/-- The trailer's positions leave the queue, and the truck's need no trailer. -/
theorem State.WalkLaws.decouple {s : State} (hs : s.WalkLaws) (o : TeachOutcome) :
    (s.decouple.removeFromTeach (fun p => !inTruck p) false o).WalkLaws := by
  rw [State.decouple_eq]
  generalize s.decouple.positions = positions
  exact hs.removeFromTeach (v := { s with positions := positions, trailerPresent := false })
    (gone := fun p => !inTruck p) rfl rfl rfl (hs.ports.of_ports rfl) (fun _ h _ => h)
    (fun _ hstays _ => .inl (by simpa using hstays)) o

theorem State.WalkLaws.trailerFollows {s : State} (hs : s.WalkLaws) : s.trailerFollows.WalkLaws := by
  have huntimed := hs.keeps (t := { s with trlTimer := none }) (.of_ports rfl rfl)
  cases htrl : s.trl with
  | true => rw [State.trailerFollows_coupled htrl]; exact huntimed.recouple
  | false => rw [State.trailerFollows_decoupled htrl]; exact huntimed.decouple .detached

/-! ### The part starts (R161) -/

theorem PortCtl.Lawful.startRotation {c : PortCtl} (hc : c.Lawful) (now : Tick) (period : Nat) :
    (c.startRotation now period).Lawful := by
  refine { hc with silent := fun h => ?_ }
  obtain ⟨hqueue, -, herrors⟩ := hc.silent h
  refine ⟨hqueue, ?_, herrors⟩
  unfold PortCtl.startRotation at h ⊢; dsimp only at h ⊢
  split
  · next hactive => exact absurd hactive h
  · rfl

/-- At the end of STARTING there is no session, and nobody holds the grant or waits for it. -/
theorem State.WalkLaws.startRunning {s : State} (hs : s.WalkLaws) (hstarting : s.phase = .starting) :
    s.startRunning.WalkLaws := by
  have hteach : s.startRunning.teach = none := hs.teach.starting hstarting
  refine ⟨.of_none hteach, ⟨List.nodup_nil, nofun, fun _ => rfl, fun _ => rfl, ⟨nofun, fun h => nomatch h.1⟩,
    fun t ht => absurd (hteach.symm.trans ht) nofun, ⟨nofun, fun h => absurd rfl h⟩, fun _ => rfl⟩, ?_⟩
  exact State.portsLaw_of_both ((hs.ports .a).startRotation ..) ((hs.ports .b).startRotation ..)

/-! ### The transmitters (R172, R175, R177) -/

/-- A period timer set on an ACTIVE port. -/
theorem PortCtl.Lawful.withDue {c : PortCtl} (hc : c.Lawful) (hactive : c.mode = .active) (due : Option Tick) :
    ({ c with periodDue := due } : PortCtl).Lawful :=
  { hc with silent := fun h => absurd hactive h }

theorem PortCtl.Lawful.withNextAxle {c : PortCtl} (hc : c.Lawful) (a : AxleNo) :
    ({ c with nextAxle := a } : PortCtl).Lawful := { hc with }

theorem PortCtl.Lawful.withOverflow {c : PortCtl} (hc : c.Lawful) (overflow : Bool) :
    ({ c with overflow := overflow } : PortCtl).Lawful := { hc with }

theorem exec_cyclicReport_keepsTenure {s t : State} {port : Port} (h : exec (.cyclicReport port) s = .next t) :
    s.KeepsTenure t := by
  cases h
  refine keepsTenure_ite (fun hdue => ?_) fun _ => .refl s
  obtain ⟨-, hactive, -⟩ := hdue
  have htimed := State.keepsTenure_setPort (s := s) port fun hs =>
    (hs port).withDue hactive (some (after s.tick (s.settings.reportPeriod.get port)))
  dsimp only
  split
  · exact htimed
  · exact (htimed.trans (State.keepsTenure_reportAxle _ port _)).trans
      (State.keepsTenure_setPort port fun hs => (hs port).withNextAxle _)

theorem exec_frameOffer_keepsTenure {s t : State} {port : Port} (h : exec (.frameOffer port) s = .next t) :
    s.KeepsTenure t := by
  cases h
  refine keepsTenure_ite (fun hidle => ?_) fun _ => .refl s
  obtain ⟨hactive, hidle⟩ := hidle
  split
  · exact .refl s
  · exact State.keepsTenure_setPort port fun hs => (hs port).withQueue hactive
      (length_markFirst ..).le (sending_markFirst _ hidle) (hs port).errors

theorem exec_busOffReturn_keepsTenure {s t : State} {port : Port} (h : exec (.busOffReturn port) s = .next t) :
    s.KeepsTenure t := by
  cases h
  dsimp only
  split
  · exact .refl s
  · next since hmode =>
    refine keepsTenure_ite (fun _ => State.keepsTenure_setPort port fun hs => ?_) fun _ => .refl s
    exact { hs port with errors := Nat.zero_le _, silent := fun h => absurd rfl h }

theorem State.WalkLaws.attemptEnd {s t : State} (hs : s.WalkLaws) {port : Port} {result : AttemptResult}
    (h : exec (.attemptEnd port result) s = .next t) : t.WalkLaws := by
  cases h
  refine walkLaws_ite (fun hsending => ?_) fun _ => hs
  have hport := hs.ports port
  have hactive := hport.active_of_sending hsending
  have hidle : (idleQueue (s.port port).queue).length ≤ (s.port port).queue.length := (length_idleQueue _).le
  have hnone : ((idleQueue (s.port port).queue).filter (·.sending)).length ≤ 1 := by
    rw [sending_idleQueue]; exact Nat.zero_le 1
  have hset : ∀ c : PortCtl, c.Lawful → (s.setPort port c).WalkLaws := fun c hc =>
    hs.keeps (State.keepsTenure_setPort port fun _ => hc)
  cases result with
  | success => exact hset _ (hport.withQueue hactive List.eraseP_sublist.length_le
      ((List.eraseP_sublist.filter _).length_le.trans hport.one) ((Nat.sub_le ..).trans hport.errors))
  | lostArbitration => exact hset _ (hport.withQueue hactive hidle hnone hport.errors)
  | failure =>
    exact walkLaws_ite (fun _ => hs.portReset port) fun hfew =>
      hset _ (hport.withQueue hactive hidle hnone (Nat.le_of_not_gt hfew))

/-! ### Position lists (R130) -/

/-- What R130 asks of a list besides the truck lock, against the queue and the taught set of the session. -/
structure State.Teachable (s : State) (queue taught list : List Pos) : Prop where
  nonempty : list ≠ []
  existing : ∀ p ∈ list, s.posExists p = true
  coupled : ∀ p ∈ list, inTruck p = true ∨ s.trailerPresent = true
  once : list.Nodup
  apart : ∀ p ∈ list, p ∉ queue ∧ p ∉ taught
  room : queue.length + list.length ≤ 32

/-- The checks that refuse a list INVALID are those of `State.Teachable`, in its order. -/
theorem State.teachable_iff {s : State} {queue taught list : List Pos} : s.Teachable queue taught list ↔
    ¬ (list.isEmpty = true ∨ (list.any fun p => !s.posExists p) = true ∨
      (list.any fun p => !inTruck p && !s.trailerPresent) = true ∨ ¬ list.Nodup ∨
      (list.any fun p => queue.contains p || taught.contains p) = true ∨ queue.length + list.length > 32) := by
  have hexisting : (∀ p ∈ list, s.posExists p = true) ↔ ¬ (list.any fun p => !s.posExists p) = true := by simp
  have hcoupled : (∀ p ∈ list, inTruck p = true ∨ s.trailerPresent = true) ↔
      ¬ (list.any fun p => !inTruck p && !s.trailerPresent) = true := by simp [or_iff_not_imp_left]
  have hapart : (∀ p ∈ list, p ∉ queue ∧ p ∉ taught) ↔
      ¬ (list.any fun p => queue.contains p || taught.contains p) = true := by simp
  simp only [not_or, ← hexisting, ← hcoupled, ← hapart, not_not, List.isEmpty_iff, gt_iff_lt, Nat.not_lt]
  exact ⟨fun h => ⟨h.nonempty, h.existing, h.coupled, h.once, h.apart, h.room⟩,
    fun ⟨nonempty, existing, coupled, once, apart, room⟩ => ⟨nonempty, existing, coupled, once, apart, room⟩⟩

theorem State.judgeList_invalid {s : State} {queue taught list : List Pos} (h : ¬ s.Teachable queue taught list) :
    s.judgeList queue taught list = some .invalid := by
  rw [State.teachable_iff, not_not] at h
  simp only [State.judgeList, ← ite_or]
  exact if_pos h

/-- The truck lock is asked of a list that passes all else (R130). -/
theorem State.judgeList_teachable {s : State} {queue taught list : List Pos} (h : s.Teachable queue taught list) :
    s.judgeList queue taught list = if s.grant.truckLock && list.any inTruck then some .locked else none := by
  rw [State.teachable_iff] at h
  simp only [State.judgeList, ← ite_or]
  exact if_neg h

/-- A list accepted names positions that R130 lets join the walk. -/
theorem State.teachable_of_teachList {s : State} {queue taught list : List Pos} {codes : List Nat}
    (h : s.teachList queue taught codes = .ok list) : s.Teachable queue taught list := by
  unfold State.teachList at h
  split at h
  · cases h
  · split at h
    · cases h
    · next hpasses =>
      cases h
      by_contra hnot
      rw [State.judgeList_invalid hnot] at hpasses
      cases hpasses

/-! ### The gates -/

theorem State.WalkLaws.request {α : Type} {s : State} {r : Request} {code : Byte} {ops : Option α}
    {own : α → State → State} (hs : s.WalkLaws) (hown : ∀ x, s.serves r → (own x s).WalkLaws) :
    (s.request r code ops own).WalkLaws := by
  obtain h | ⟨o, h⟩ | ⟨hserved, x, -, h⟩ := s.request_cases r code ops own
  · rw [h]; exact hs
  · rw [h]; exact hs.keeps (s.keepsTenure_refuse r code o)
  · rw [h]; exact hown x hserved

/-- An edit is carried out for the holder alone (R144). -/
theorem State.WalkLaws.edit {α : Type} {s : State} {r : Request} {code : Byte} {ops : Option α}
    {own : α → State → State} (hs : s.WalkLaws) (hown : ∀ x, s.HeldBy r.port → (own x s).WalkLaws) :
    (s.edit r code ops own).WalkLaws := by
  obtain h | ⟨o, h⟩ | ⟨⟨-, hheld⟩, x, -, h⟩ := s.edit_cases r code ops own
  · rw [h]; exact hs
  · rw [h]; exact hs.keeps (s.keepsTenure_refuse r code o)
  · rw [h]; exact hown x ⟨hs, hheld⟩

theorem State.WalkLaws.refuse {s : State} (hs : s.WalkLaws) (r : Request) (code : Byte) (o : Reply) :
    (s.refuse r code o).WalkLaws := hs.keeps (s.keepsTenure_refuse r code o)

theorem State.WalkLaws.reply {s : State} (hs : s.WalkLaws) (r : Request) (code : Byte) (o : Reply) :
    (s.reply r code o).WalkLaws := hs.keeps (s.keepsTenure_reply r code o)

/-! ### The edits and the grant's requests -/

/-- Positions that R130 lets join a lawful walk leave it lawful (R129, R132). -/
theorem State.SessionLawful.joined {s : State} {x : TeachSession} (hx : s.SessionLawful x) {ps : List Pos}
    (hlist : s.Teachable x.queue x.taught ps) : s.SessionLawful { x with queue := x.queue ++ ps } := by
  refine ⟨List.append_ne_nil_of_left_ne_nil hx.nonempty _, ?once, hx.taughtOnce, fun p hp => ?apart,
    fun p hp => ?existing, fun p hp => ?coupled, hx.count⟩
  case once => exact hx.queueOnce.append hlist.once fun p hqueue hp => (hlist.apart p hp).1 hqueue
  case apart => exact (List.mem_append.1 hp).elim (hx.apart p) fun h => (hlist.apart p h).2
  case coupled => exact (List.mem_append.1 hp).elim (hx.coupled p) (hlist.coupled p)
  case existing =>
    obtain hqueue | htaught := List.mem_append.1 hp
    · exact (List.mem_append.1 hqueue).elim (fun h => hx.existing p (List.mem_append_left _ h)) (hlist.existing p)
    · exact hx.existing p (List.mem_append_right _ htaught)

section Requests

variable {s : State} (hs : s.WalkLaws) {r : Request} {t : State}
include hs

theorem State.WalkLaws.grantRequest (h : exec (.grantRequest r) s = .next t) : t.WalkLaws := by
  cases h
  refine hs.request fun _ hserved => ?_
  have hrunning : s.phase ≠ .starting := by rw [hserved.2]; nofun
  split
  · next hfree =>
    have hnobody : ∀ p, s.grant.state ≠ .held p := by rw [hfree]; nofun
    refine (State.walkLaws_beginTenure hrunning (hs.grant.teach_eq_none hnobody)
      (hs.grant.toSave_eq_nil (by rw [hfree]; nofun)) hs.ports ?_).reply ..
    rw [hs.grant.free hfree]
    exact List.nodup_singleton _
  · next p hheld =>
    refine walkLaws_ite (fun _ => (hs.refreshIdle hheld).reply ..) fun hother => ?_
    have hnot : s.grant.state ≠ .held r.port := fun h => hother (GrantState.held.inj (hheld.symm.trans h))
    exact (hs.joinWaiting hnot (by rw [hheld]; nofun)).reply ..
  · next hsaving => exact (hs.joinWaiting (by rw [hsaving]; nofun) (by rw [hsaving]; nofun)).reply ..

theorem State.WalkLaws.grantRelease (h : exec (.grantRelease r) s = .next t) : t.WalkLaws := by
  cases h
  exact hs.request fun _ _ => walkLaws_ite (fun hheld => (hs.endTenure hheld).reply ..) fun _ =>
    walkLaws_ite (fun _ => (hs.stopWaiting _).reply ..) fun _ => hs.refuse ..

theorem State.WalkLaws.writePosition (h : exec (.writePosition r) s = .next t) : t.WalkLaws := by
  cases h
  refine hs.edit fun w hheld => walkLaws_ite (fun _ => hs.refuse ..) fun _ => walkLaws_ite (fun _ => hs.refuse ..)
    fun _ => walkLaws_ite (fun _ => ?_) fun _ => hheld.refreshIdle.laws.reply ..
  exact ((hheld.keeps (s.keepsTenure_recordReset w.1 w.2)).mark _).settled.laws.reply ..

theorem State.WalkLaws.writeAxle (h : exec (.writeAxle r) s = .next t) : t.WalkLaws := by
  cases h
  refine hs.edit fun w hheld => ?_
  dsimp only
  split
  · exact hs.refuse ..
  · next k _ =>
    exact walkLaws_ite (fun _ => hheld.refreshIdle.laws.reply ..) fun _ => walkLaws_ite (fun _ => hs.refuse ..)
      fun _ => (hheld.applyAxle w k).laws.reply ..

theorem State.WalkLaws.writeProfile (h : exec (.writeProfile r) s = .next t) : t.WalkLaws := by
  cases h
  exact hs.edit fun w hheld => walkLaws_ite (fun _ => (hheld.applyProfile w.index _).laws.reply ..)
    fun _ => hheld.refreshIdle.laws.reply ..

theorem State.WalkLaws.writeSettings (h : exec (.writeSettings r) s = .next t) : t.WalkLaws := by
  cases h
  refine hs.edit fun w hheld => ?_
  split
  · exact hs.refuse ..
  · next x _ => exact (hheld.applySettings x).laws.reply ..

theorem State.WalkLaws.clearSection (h : exec (.clearSection r) s = .next t) : t.WalkLaws := by
  cases h
  exact hs.edit fun truck hheld => walkLaws_ite (fun _ => hs.refuse ..) fun _ =>
    (hheld.clearVehicleSection truck).settled.laws.reply ..

theorem State.WalkLaws.lockTruck (h : exec (.lockTruck r) s = .next t) : t.WalkLaws := by
  cases h
  refine hs.edit fun _ hheld => ?_
  have hlocked : State.HeldBy { s with grant := { s.grant with truckLock := true } } r.port :=
    ⟨⟨⟨fun t ht => { hs.teach.session t ht with }, hs.teach.starting⟩, { hs.grant with }, hs.ports.of_ports rfl⟩,
      hheld.holder⟩
  exact hlocked.refreshIdle.laws.reply ..

theorem State.WalkLaws.teachStart (h : exec (.teachStart r) s = .next t) : t.WalkLaws := by
  cases h
  refine hs.edit fun codes hheld => walkLaws_ite (fun _ => hs.refuse ..) fun _ => ?_
  split
  · exact hs.refuse ..
  · next ps hok =>
    have hlist := State.teachable_of_teachList hok
    have hsession : s.SessionLawful
        { owner := r.port, queue := ps, taught := []
          stepDeadline := after s.tick Config.teachStepTicks, count := 0 } :=
      ⟨hlist.nonempty, hlist.once, .nil, fun p hp => (hlist.apart p hp).2,
        fun p hp => hlist.existing p (by simpa using hp), hlist.coupled, Nat.zero_le _⟩
    exact (State.walkLaws_sessionStands hs.grant hs.ports hsession hheld.holder).keeps (State.keepsTenure_answer ..)

theorem State.WalkLaws.teachAppend (h : exec (.teachAppend r) s = .next t) : t.WalkLaws := by
  cases h
  refine hs.edit fun codes hheld => ?_
  split
  · exact hs.refuse ..
  · next x hx =>
    split
    · exact hs.refuse ..
    · next ps hok =>
      have hsession := (hs.teach.session x hx).joined (State.teachable_of_teachList hok)
      have hstands := State.walkLaws_sessionStands hs.grant hs.ports hsession (hs.grant.owner x hx)
      rw [hs.grant.sessionStands_eq hx] at hstands
      exact hstands.keeps (State.keepsTenure_answer ..)

theorem State.WalkLaws.teachAbort (h : exec (.teachAbort r) s = .next t) : t.WalkLaws := by
  cases h
  refine hs.edit fun _ _ => ?_
  split
  · exact hs.refuse ..
  · exact (hs.endTeach .aborted).reply ..

end Requests

/-! ### Every command -/

theorem State.WalkLaws.exec_of_event {c : Instr} {s t : State} (hs : s.WalkLaws) (hc : requestOf c = none)
    (h : exec c s = .next t) : t.WalkLaws := by
  cases c with
  | deviceReset straps cut =>
    cases h
    exact State.WalkLaws.keeps ⟨reset_teachLaw, reset_grantLaw, reset_portsLaw⟩ (.of_ports rfl rfl)
  | endOfStarting =>
    cases h
    refine walkLaws_ite (fun hstarting => ?_) fun _ => hs
    have hstarted := hs.startRunning hstarting
    exact (walkLaws_ite (fun _ => hstarted.keeps (State.keepsTenure_bodyRises _)) fun _ => hstarted).keeps
      (State.keepsTenure_recomputeWarn _)
  | receivedByte i high v => cases h; exact walkLaws_ite (fun _ => hs.takeByte i v) fun _ => hs
  | gapExpiry run => cases h; exact hs.keeps (keepsTenure_ite (fun _ => .of_ports rfl rfl) fun _ => .refl s)
  | windowExpiry id seq =>
    cases h
    split
    · exact hs
    · next rest _ =>
      have hclosed : s.KeepsTenure { s with merge := rest } := .of_ports rfl rfl
      exact walkLaws_ite (fun _ => (hs.keeps hclosed).deliver _) fun _ => hs
  | deadlineExpiry p =>
    cases h
    exact hs.keeps (keepsTenure_ite
      (fun _ => (s.keepsTenure_fallMissing p).trans (State.keepsTenure_recomputeWarn _)) fun _ => .refl s)
  | stepDeadlineExpiry =>
    cases h
    split
    · exact hs
    · exact walkLaws_ite (fun _ => hs.endTeach .timeout) fun _ => hs
  | trlChange high => cases h; exact hs.keeps (.of_ports rfl rfl)
  | trlDebounceExpiry =>
    rw [exec_trlDebounceExpiry] at h
    cases h
    exact walkLaws_ite (fun _ => hs.trailerFollows.keeps (State.keepsTenure_recomputeWarn _)) fun _ => hs
  | bodyChange high => cases h; exact hs.keeps (.of_ports rfl rfl)
  | bodyDebounceExpiry =>
    rw [exec_bodyDebounceExpiry] at h
    cases h
    have hfollowed : s.KeepsTenure s.bodyFollowed := .of_ports rfl rfl
    have hmoved := keepsTenure_ite (p := s.body = true) (fun _ => hfollowed.trans (State.keepsTenure_bodyRises _))
      fun _ => hfollowed.trans (State.keepsTenure_bodyFalls _)
    exact hs.keeps (keepsTenure_ite (fun _ => hmoved.trans (State.keepsTenure_recomputeWarn _)) fun _ => .refl s)
  | flashPhase => cases h; exact hs.keeps (keepsTenure_ite (fun _ => .of_ports rfl rfl) fun _ => .refl s)
  | cyclicReport port => exact hs.keeps (exec_cyclicReport_keepsTenure h)
  | frameOffer port => exact hs.keeps (exec_frameOffer_keepsTenure h)
  | attemptEnd port result => exact hs.attemptEnd h
  | busOffReturn port => exact hs.keeps (exec_busOffReturn_keepsTenure h)
  | idleExpiry =>
    cases h
    split
    · next p hheld =>
      exact walkLaws_ite (fun _ => (hs.keeps (State.keepsTenure_notice ..)).endTenure hheld) fun _ => hs
    · exact hs
    · exact hs
  | sectionSave result =>
    cases h
    refine walkLaws_ite (fun hsaving => ?_) fun _ => hs
    split
    · exact hs
    · exact hs.finishSection hsaving ..
  | keptTickSaturation =>
    obtain rfl : s.saturated = t := Host.Outcome.next.inj h
    exact hs.keeps s.keepsTenure_saturated
  | _ => cases hc

theorem State.WalkLaws.exec_of_request {c : Instr} {s t : State} (hs : s.WalkLaws) (hc : (requestOf c).isSome = true)
    (h : exec c s = .next t) : t.WalkLaws := by
  cases c with
  | readPosition r => cases h; exact hs.keeps (.request fun _ => State.keepsTenure_answer ..)
  | readAxle r => cases h; exact hs.keeps (.request fun _ => State.keepsTenure_answer ..)
  | readProfile r => cases h; exact hs.keeps (.request fun _ => State.keepsTenure_answer ..)
  | readSettings r => cases h; exact hs.keeps (.request fun _ => State.keepsTenure_answer ..)
  | readForeign r =>
    cases h
    refine hs.keeps (.request fun i => ?_)
    split
    · exact s.keepsTenure_refuse ..
    · exact s.keepsTenure_answer ..
  | readLineStatus r =>
    cases h
    exact hs.keeps (.request fun q => (keepsTenure_ite (fun _ => s.keepsTenure_setLine q.1 _) fun _ => .refl s).trans
      (State.keepsTenure_answer ..))
  | readStack r => cases h; exact hs.keeps (.request fun _ => State.keepsTenure_answer ..)
  | readStatus r =>
    cases h
    exact hs.keeps (.request fun _ => (State.keepsTenure_setPort r.port fun h => (h r.port).withOverflow false).trans
      (State.keepsTenure_answer ..))
  | ack r =>
    cases h
    exact hs.keeps (.request fun ps => ((s.keepsTenure_mapPos _).trans (State.keepsTenure_recomputeWarn _)).trans
      (State.keepsTenure_answer ..))
  | hold r =>
    cases h
    refine hs.keeps (.request fun p => ?_)
    have htaken : s.KeepsTenure ((s.takeHold p).recomputeWarn.reply r codeHold .done) :=
      ((s.keepsTenure_takeHold p).trans (State.keepsTenure_recomputeWarn _)).trans (State.keepsTenure_reply ..)
    split
    · exact s.keepsTenure_refuse ..
    · exact s.keepsTenure_refuse ..
    · exact s.keepsTenure_reply ..
    · exact htaken
    · exact htaken
    · exact htaken
  | unhold r =>
    cases h
    exact hs.keeps (.request fun p => keepsTenure_ite
      (fun _ => ((s.keepsTenure_restoreHold p).trans (State.keepsTenure_recomputeWarn _)).trans
        (State.keepsTenure_reply ..)) fun _ => s.keepsTenure_reply ..)
  | push r =>
    cases h
    exact hs.keeps (.request fun i => ((s.keepsTenure_changeStack _).trans (State.keepsTenure_recomputeWarn _)).trans
      (State.keepsTenure_reply ..))
  | pop r =>
    cases h
    refine hs.keeps (.request fun _ => ?_)
    split
    · exact s.keepsTenure_refuse ..
    · exact ((s.keepsTenure_changeStack _).trans (State.keepsTenure_recomputeWarn _)).trans (State.keepsTenure_reply ..)
  | grantRequest r => exact hs.grantRequest h
  | grantRelease r => exact hs.grantRelease h
  | writePosition r => exact hs.writePosition h
  | writeAxle r => exact hs.writeAxle h
  | writeProfile r => exact hs.writeProfile h
  | writeSettings r => exact hs.writeSettings h
  | clearSection r => exact hs.clearSection h
  | lockTruck r => exact hs.lockTruck h
  | teachStart r => exact hs.teachStart h
  | teachAppend r => exact hs.teachAppend h
  | teachAbort r => exact hs.teachAbort h
  | vehicleState r =>
    cases h
    refine hs.keeps (keepsTenure_ite (fun _ => ?_) fun _ => .refl s)
    have htaken : s.KeepsTenure { s with context := s.contextAfter r } := .of_ports rfl rfl
    exact (htaken.trans (State.keepsTenure_reevaluate _)).trans (State.keepsTenure_recomputeWarn _)
  | unknownRequest code r =>
    cases hcode : namesRequest code with
    | false =>
      rw [exec_unknownRequest hcode] at h
      cases h
      exact hs.keeps (.request fun _ => .refl s)
    | true => rw [exec_unknownRequest_known hcode] at h; cases h
  | _ => cases hc

theorem State.WalkLaws.exec {c : Instr} {s t : State} (hs : s.WalkLaws) (h : exec c s = .next t) : t.WalkLaws := by
  cases hc : requestOf c with
  | none => exact hs.exec_of_event hc h
  | some codeAndFrame => exact hs.exec_of_request (hc ▸ rfl) h

/-- Settles O57: time moves only the tick and the waiting commands; every command leaves the three laws together. -/
theorem stepKeepsSessionGrantAndPortLaws : Obligations.StepKeepsSessionGrantAndPortLaws := by
  intro s t hteach hgrant hports hstep
  have hs : s.WalkLaws := ⟨hteach, hgrant, hports⟩
  have ht : t.WalkLaws := by
    cases hpending : s.pending with
    | nil =>
      rw [step_of_pending_nil hpending] at hstep
      obtain rfl := Host.Outcome.next.inj hstep
      exact hs.keeps s.keepsTenure_idle
    | cons c rest =>
      rw [step_of_pending_eq hpending] at hstep
      exact (hs.keeps (t := { s with pending := rest }) (.of_ports rfl rfl)).exec hstep
  exact ⟨ht.teach, ht.grant, ht.ports⟩

/-! ### STEP_DEADLINE_EXPIRY and TEACH ABORT (R133, R134) -/

theorem exec_stepDeadlineExpiry_noSession {s : State} (h : s.teach = none) : exec .stepDeadlineExpiry s = .next s := by
  simp only [exec, execStepDeadlineExpiry, h]

theorem exec_stepDeadlineExpiry_session {s : State} {x : TeachSession} (h : s.teach = some x) :
    exec .stepDeadlineExpiry s = .next (if x.stepDeadline = s.tick then s.endTeach .timeout else s) := by
  simp only [exec, execStepDeadlineExpiry, h]

theorem exec_teachAbort_noSession {r : Request} {s : State} (hserved : s.servesHolder r) (h : s.teach = none) :
    exec (.teachAbort r) s = .next (s.answer r 0x42#8 [[0x85#8]]) := by
  rw [exec, execTeachAbort, State.edit_served codeTeachAbort () _ hserved]
  simp only [h]
  rw [s.refuse_of_ne r .notFound (by decide)]
  rfl

theorem exec_teachAbort_session {r : Request} {s : State} {x : TeachSession} (hserved : s.servesHolder r)
    (h : s.teach = some x) : exec (.teachAbort r) s = .next ((s.endTeach .aborted).answer r 0x42#8 [[0]]) := by
  rw [exec, execTeachAbort, State.edit_served codeTeachAbort () _ hserved]
  simp only [h]
  rfl

/-- Settles O48. -/
theorem sessionEndsByTimeoutOrAbort : Obligations.SessionEndsByTimeoutOrAbort := by
  refine fun s => ⟨exec_stepDeadlineExpiry_noSession, fun x ended hx => ⟨fun hlater => ?notDue, fun hdue hended => ?due,
    fun r hserved hended => ?aborted⟩, fun r hserved => exec_teachAbort_noSession hserved⟩
  case notDue => rw [exec_stepDeadlineExpiry_session hx, if_neg hlater]
  case due => rw [exec_stepDeadlineExpiry_session hx, if_pos hdue, State.endTeach_some hx, hended]; rfl
  case aborted => rw [exec_teachAbort_session hserved hx, State.endTeach_some hx, hended]; rfl

/-! ### The lists of TEACH START and TEACH APPEND (R130, R131, R132) -/

theorem mapM_eq_some_map {α β : Type} {f : α → Option β} {g : α → β} {l : List α} (h : ∀ a ∈ l, f a = some (g a)) :
    l.mapM f = some (l.map g) := by
  induction l with
  | nil => rfl
  | cons a l ih =>
    rw [List.mapM_cons, h a List.mem_cons_self, ih fun b hb => h b (List.mem_cons_of_mem a hb)]
    rfl

/-- A byte sent means the ones before it are. -/
theorem isSome_byteAt_of_le {r : Request} {i n : Nat} (h : (byteAt r n).isSome = true) (hle : i ≤ n) :
    (byteAt r i).isSome = true := by
  unfold byteAt at h ⊢
  split at h
  · next hn =>
    rw [if_pos (by omega)]
    simp only [Option.isSome_map, isSome_getElem?] at h ⊢
    omega
  · cases h

/-- A list sent whole, and not too long, is read (R131, R132, R166). -/
theorem listOperand_sent {most : Nat} {r : Request} {n : Nat} (hn : byteAt r 0 = some n) (hle : n ≤ most)
    (hsent : ∀ i < n, (byteAt r (i + 1)).isSome = true) :
    listOperand most r = some ((List.range n).map fun i => (byteAt r (i + 1)).getD 0) := by
  rw [listOperand, hn, Option.bind_some, if_neg (by omega)]
  refine mapM_eq_some_map fun i hi => ?_
  obtain ⟨b, hb⟩ := Option.isSome_iff_exists.1 (hsent i (List.mem_range.1 hi))
  rw [hb]
  rfl

/-- A frame that carries these positions and their count. -/
theorem listOperand_positions {most : Nat} {r : Request} {ps : List Pos} (hn : byteAt r 0 = some ps.length)
    (hle : ps.length ≤ most) (hsent : ∀ (i : Nat) (p : Pos), ps[i]? = some p → byteAt r (i + 1) = some p.val) :
    listOperand most r = some (ps.map (·.val)) := by
  have hbyte : ∀ (i : Nat) (h : i < ps.length), byteAt r (i + 1) = some ps[i].val := fun i h =>
    hsent i ps[i] (List.getElem?_eq_getElem h)
  rw [listOperand_sent hn hle fun i h => by rw [hbyte i h]; rfl]
  refine congrArg some (List.ext_getElem (by simp) fun i h _ => ?_)
  rw [List.length_map, List.length_range] at h
  simp [hbyte i h]

theorem posOfCode_eq_some {n : Nat} {p : Pos} : posOfCode n = some p ↔ n = p.val := by
  unfold posOfCode
  constructor
  · intro h
    split at h
    · cases h; rfl
    · cases h
  · rintro rfl
    exact dif_pos p.isLt

/-- Every code of a list names a position exactly where the codes are those of positions. -/
theorem mapM_posOfCode_eq_some {codes : List Nat} {ps : List Pos} :
    codes.mapM posOfCode = some ps ↔ codes = ps.map (·.val) := by
  induction codes generalizing ps with
  | nil => cases ps <;> simp
  | cons n codes ih => cases ps <;> simp [List.mapM_cons, Option.bind_eq_some_iff, posOfCode_eq_some, ih]

section TeachList

variable {s : State} {queue taught : List Pos}

theorem State.teachList_invalid {codes : List Nat}
    (h : ∀ ps : List Pos, codes = ps.map (·.val) → ¬ s.Teachable queue taught ps) :
    s.teachList queue taught codes = .error .invalid := by
  unfold State.teachList
  split
  · rfl
  · next ps hps => rw [State.judgeList_invalid (h ps (mapM_posOfCode_eq_some.1 hps))]

theorem State.teachList_locked {ps : List Pos} (h : s.Teachable queue taught ps) (hlock : s.grant.truckLock = true)
    (htruck : ps.any inTruck = true) : s.teachList queue taught (ps.map (·.val)) = .error .locked := by
  simp only [State.teachList, mapM_posOfCode_eq_some.2 rfl, State.judgeList_teachable h, hlock, htruck, Bool.and_self,
    if_true]

theorem State.teachList_ok {ps : List Pos} (h : s.Teachable queue taught ps)
    (hunlocked : ∀ p ∈ ps, inTruck p = true → s.grant.truckLock = false) :
    s.teachList queue taught (ps.map (·.val)) = .ok ps := by
  have hlock : (s.grant.truckLock && ps.any inTruck) = false := by
    rw [Bool.and_eq_false_iff, List.any_eq_false]
    by_cases htruck : ∃ p ∈ ps, inTruck p = true
    · obtain ⟨p, hp, hin⟩ := htruck
      exact .inl (hunlocked p hp hin)
    · exact .inr fun p hp hin => htruck ⟨p, hp, hin⟩
  simp only [State.teachList, mapM_posOfCode_eq_some.2 rfl, State.judgeList_teachable h, hlock, Bool.false_eq_true,
    if_false]

end TeachList

section TeachRequests

variable {r : Request} {s : State} {codes : List Nat} (hserved : s.servesHolder r)
include hserved

theorem exec_teachStart_busy (hops : listOperand 6 r = some codes) (h : s.teach ≠ none) :
    exec (.teachStart r) s = .next (s.answer r 0x40#8 [[0x83#8]]) := by
  rw [exec, execTeachStart, hops, State.edit_served codeTeachStart _ _ hserved, if_pos (Option.isSome_iff_ne_none.2 h),
    s.refuse_of_ne r .busy (by decide)]
  rfl

theorem exec_teachStart_refused (hops : listOperand 6 r = some codes) (h : s.teach = none) {o : Reply}
    (hlist : s.teachList [] [] codes = .error o) :
    exec (.teachStart r) s = .next (s.answer r 0x40#8 [[o.code]]) := by
  rw [exec, execTeachStart, hops, State.edit_served codeTeachStart _ _ hserved, if_neg (by rw [h]; nofun)]
  simp only [hlist]
  rw [s.refuse_of_ne r o (by decide)]
  rfl

theorem exec_teachStart_accepted (hops : listOperand 6 r = some codes) (h : s.teach = none) {ps : List Pos}
    (hlist : s.teachList [] [] codes = .ok ps) : exec (.teachStart r) s = .next ((s.sessionStands
      { owner := r.port, queue := ps, taught := [], stepDeadline := s.tick + 1200#24, count := 0 }).answer r 0x40#8
      [[0, optPos ps.head?, byteOf ps.length]]) := by
  rw [exec, execTeachStart, hops, State.edit_served codeTeachStart _ _ hserved, if_neg (by rw [h]; nofun)]
  simp only [hlist]
  rfl

theorem exec_teachAppend_noSession (hops : listOperand 7 r = some codes) (h : s.teach = none) :
    exec (.teachAppend r) s = .next (s.answer r 0x41#8 [[0x85#8]]) := by
  rw [exec, execTeachAppend, hops, State.edit_served codeTeachAppend _ _ hserved]
  simp only [h]
  rw [s.refuse_of_ne r .notFound (by decide)]
  rfl

theorem exec_teachAppend_refused (hops : listOperand 7 r = some codes) {x : TeachSession} (h : s.teach = some x)
    {o : Reply} (hlist : s.teachList x.queue x.taught codes = .error o) :
    exec (.teachAppend r) s = .next (s.answer r 0x41#8 [[o.code]]) := by
  rw [exec, execTeachAppend, hops, State.edit_served codeTeachAppend _ _ hserved]
  simp only [h, hlist]
  rw [s.refuse_of_ne r o (by decide)]
  rfl

theorem exec_teachAppend_accepted (hops : listOperand 7 r = some codes) {x : TeachSession} (h : s.teach = some x)
    {ps : List Pos} (hlist : s.teachList x.queue x.taught codes = .ok ps) : exec (.teachAppend r) s = .next
      (State.answer { s with teach := some { x with queue := x.queue ++ ps } } r 0x41#8
        [[0, optPos (x.queue ++ ps).head?, byteOf (x.queue.length + ps.length)]]) := by
  rw [exec, execTeachAppend, hops, State.edit_served codeTeachAppend _ _ hserved]
  simp only [h, hlist, teachAnswer, List.length_append]
  rfl

end TeachRequests

/-! ### LOCK TRUCK (R157) -/

theorem exec_lockTruck_served {r : Request} {s : State} (hserved : s.servesHolder r) :
    exec (.lockTruck r) s = .next (State.answer
      { s with grant := { s.grant with
          truckLock := true
          idleTimer := if s.teach = none then some s.tick else s.grant.idleTimer } } r 0x35#8 [[0]]) := by
  rw [exec, execLockTruck, State.edit_served codeLockTruck () _ hserved, State.refreshIdle_eq]
  rfl

/-! ### Lists that are refused -/

/-- What R130 finds fault with, told of the codes that a frame carries. -/
def State.FaultyCodes (s : State) (queue taught : List Pos) (codes : List Nat) : Prop :=
  codes = [] ∨ (∃ n ∈ codes, 32 ≤ n) ∨ ¬ codes.Nodup ∨ 32 < queue.length + codes.length ∨
    (∃ p : Pos, p.val ∈ codes ∧ (s.posExists p = false ∨ p ∈ queue ∨ p ∈ taught ∨
      (inTruck p = false ∧ s.trailerPresent = false)))

theorem mem_codes_iff {ps : List Pos} {p : Pos} : p.val ∈ ps.map (·.val) ↔ p ∈ ps :=
  List.mem_map_of_injective Fin.val_injective

theorem State.FaultyCodes.not_teachable {s : State} {queue taught ps : List Pos}
    (h : s.FaultyCodes queue taught (ps.map (·.val))) : ¬ s.Teachable queue taught ps := by
  intro hlist
  obtain hempty | ⟨n, hn, hlarge⟩ | hrepeated | hlong | ⟨p, hp, hfault⟩ := h
  · exact hlist.nonempty (List.map_eq_nil_iff.1 hempty)
  · obtain ⟨p, -, rfl⟩ := List.mem_map.1 hn
    exact absurd p.isLt (Nat.not_lt.2 hlarge)
  · exact hrepeated (hlist.once.map Fin.val_injective)
  · rw [List.length_map] at hlong
    exact absurd hlist.room (Nat.not_le.2 hlong)
  · have hp := mem_codes_iff.1 hp
    obtain ⟨hqueue, htaught⟩ := hlist.apart p hp
    obtain habsent | hin | hin | ⟨htrailer, hnone⟩ := hfault
    · rw [hlist.existing p hp] at habsent; cases habsent
    · exact hqueue hin
    · exact htaught hin
    · have hcoupled := hlist.coupled p hp
      rw [htrailer, hnone] at hcoupled
      simp at hcoupled

/-- Codes that name, once each, positions which may join the walk are the codes of such a list. -/
theorem State.exists_teachable {s : State} {queue taught : List Pos} {codes : List Nat} (hnonempty : codes ≠ [])
    (honce : codes.Nodup) (hroom : queue.length + codes.length ≤ 32)
    (hnamed : ∀ n ∈ codes, ∃ p : Pos, p.val = n ∧ s.posExists p = true ∧ p ∉ queue ∧ p ∉ taught ∧
      (inTruck p = true ∨ s.trailerPresent = true)) :
    ∃ ps : List Pos, codes = ps.map (·.val) ∧ s.Teachable queue taught ps := by
  lift codes to List Pos using fun n hn => by
    obtain ⟨p, rfl, -⟩ := hnamed n hn
    exact p.isLt
  have hfit : ∀ p ∈ codes, s.posExists p = true ∧ p ∉ queue ∧ p ∉ taught ∧
      (inTruck p = true ∨ s.trailerPresent = true) := fun p hp => by
    obtain ⟨q, hq, hfit⟩ := hnamed p.val (mem_codes_iff.2 hp)
    rwa [Fin.ext hq] at hfit
  have hexisting : ∀ p ∈ codes, s.posExists p = true := fun p hp => (hfit p hp).1
  have hapart : ∀ p ∈ codes, p ∉ queue ∧ p ∉ taught := fun p hp =>
    have ⟨_, hqueue, htaught, _⟩ := hfit p hp
    ⟨hqueue, htaught⟩
  have hcoupled : ∀ p ∈ codes, inTruck p = true ∨ s.trailerPresent = true := fun p hp =>
    have ⟨_, _, _, h⟩ := hfit p hp
    h
  exact ⟨codes, rfl, fun h => hnonempty (by rw [h]; rfl), hexisting, hcoupled, honce.of_map _, hapart,
    by simpa using hroom⟩

/-- Settles O47. -/
theorem lockAndTeachRequests : Obligations.LockAndTeachRequests := by
  intro r s hserved
  refine ⟨exec_lockTruck_served hserved, fun ps hfew hn hsent hnonempty honce hfit => ?accepted,
    fun n hn hlast => ⟨fun hle hbusy => ?busy, fun hle hnone => ?noSession⟩,
    fun code codes queue taught c hcommand => ?refused⟩
  case accepted =>
    have hunlocked : ∀ p ∈ ps, inTruck p = true → s.grant.truckLock = false := fun p hp =>
      have ⟨_, hunlocked, _⟩ := hfit p hp
      hunlocked
    have hcoupled : ∀ p ∈ ps, inTruck p = true ∨ s.trailerPresent = true := fun p hp =>
      have ⟨_, _, htrailer⟩ := hfit p hp
      (Bool.eq_false_or_eq_true (inTruck p)).imp_right htrailer
    have hlist : ∀ queue taught : List Pos, (∀ p ∈ ps, p ∉ queue ∧ p ∉ taught) → queue.length + ps.length ≤ 32 →
        s.teachList queue taught (ps.map (·.val)) = .ok ps := fun queue taught hapart hroom =>
      State.teachList_ok ⟨hnonempty, fun p hp => (hfit p hp).1, hcoupled, honce, hapart, hroom⟩ hunlocked
    refine ⟨fun hfew hnone => ?started, fun x hx hapart hroom => ?appended⟩
    case started =>
      exact exec_teachStart_accepted hserved (listOperand_positions hn hfew hsent) hnone
        (hlist [] [] (by simp) (by rw [List.length_nil]; omega))
    case appended =>
      exact exec_teachAppend_accepted hserved (listOperand_positions hn hfew hsent) hx
        (hlist x.queue x.taught hapart hroom)
  case busy =>
    exact exec_teachStart_busy hserved (listOperand_sent hn hle fun i hi => isSome_byteAt_of_le hlast hi) hbusy
  case noSession =>
    exact exec_teachAppend_noSession hserved (listOperand_sent hn hle fun i hi => isSome_byteAt_of_le hlast hi) hnone
  case refused =>
    have hrefused : ∀ o, s.teachList queue taught codes = .error o → exec c s = .next (s.answer r code [[o.code]]) := by
      obtain ⟨rfl, rfl, hops, hnone, rfl, rfl⟩ | ⟨rfl, rfl, hops, x, hx, rfl, rfl⟩ := hcommand
      · exact fun o => exec_teachStart_refused hserved hops hnone
      · exact fun o => exec_teachAppend_refused hserved hops hx
    refine ⟨fun hfaulty => hrefused .invalid (State.teachList_invalid fun ps hps => ?_),
      fun hnonempty honce hroom hnamed hlock htruck => ?_⟩
    · subst hps
      exact State.FaultyCodes.not_teachable hfaulty
    · obtain ⟨ps, rfl, hlist⟩ := State.exists_teachable hnonempty honce hroom hnamed
      obtain ⟨p, hp, hin⟩ := htruck
      exact hrefused .locked (State.teachList_locked hlist hlock (List.any_eq_true.2 ⟨p, mem_codes_iff.1 hp, hin⟩))

end Sys2Proof.Machine
end

section
/-! PROOF. The edit grant, the truck lock and the revision: the gate that every edit passes, the grant's requests, the
end of a tenure with its handover, the save of a section, and what the truck lock shields from every command
(chapter 9); the statements O34, O40, O41, O6, O58. -/

namespace Sys2Proof.Machine

/-! ### The gate of edits (R144) -/

/-- A command goes through the gate of edits, with operands that are there where they can be read. -/
def PassesEditGate (c : Instr) (code : Byte) (r : Request) (s : State) : Prop :=
  ∃ (α : Type) (ops : Option α) (own : α → State → State),
    exec c s = .next (s.edit r code ops own) ∧ ops.isSome = operandsReadable c

theorem namesRequest_of_mem_editCodes : ∀ code ∈ editCodes, namesRequest code = true := by decide

/-- Every request with an edit's code goes through the gate of edits. -/
theorem exec_passesEditGate {c : Instr} {code : Byte} {r : Request} (hw : c.wellFormed = true)
    (hrequest : requestOf c = some (code, r)) (hcode : code ∈ editCodes) (s : State) : PassesEditGate c code r s := by
  cases c with
  | clearSection x => cases hrequest; exact ⟨_, _, _, rfl, isSome_sectionOperand r⟩
  | writePosition x | writeAxle x | writeProfile x | writeSettings x | lockTruck x | teachStart x | teachAppend x
  | teachAbort x => cases hrequest; exact ⟨_, _, _, rfl, rfl⟩
  | unknownRequest n x =>
    cases hrequest
    have hunknown : namesRequest code = false := by simpa [Instr.wellFormed] using hw
    rw [namesRequest_of_mem_editCodes code hcode] at hunknown
    cases hunknown
  | readPosition x | readAxle x | readProfile x | readSettings x | readForeign x | readLineStatus x | readStack x
  | readStatus x | ack x | hold x | unhold x | push x | pop x | grantRequest x | grantRelease x | vehicleState x =>
    cases hrequest; exact absurd hcode (by decide)
  | _ => cases hrequest

/-- Without the grant the gate refuses: INVALID where the operands cannot be read, else NO-GRANT. -/
theorem State.edit_withoutGrant {α : Type} {s : State} {r : Request} (code : Byte) (ops : Option α)
    (own : α → State → State) (hserved : s.serves r) (hheld : s.grant.state ≠ .held r.port) :
    s.edit r code ops own = s.refuse r code (if ops.isSome = true then .noGrant else .invalid) := by
  cases ops with
  | none => exact State.request_invalid code _ hserved
  | some x => exact (State.request_served code x _ hserved).trans (if_neg hheld)

/-- Settles O34. -/
theorem editWithoutGrantRefused : Obligations.EditWithoutGrantRefused := by
  intro c code r s hrequest hcode hw hserved hheld
  obtain ⟨α, ops, own, hexec, hops⟩ := exec_passesEditGate hw hrequest hcode s
  have hforeign : code ≠ codeReadForeign := fun h => absurd (h ▸ hcode) (by decide)
  rw [hexec, State.edit_withoutGrant code ops own hserved hheld, State.refuse_of_ne s r _ hforeign, hops]
  cases operandsReadable c <;> rfl

/-! ### GRANT REQUEST and GRANT RELEASE (R146, R148) -/

section GrantRequests

variable {r : Request} {s : State} (hserved : s.serves r)

theorem State.joinWaiting_eq (s : State) (p : Port) : s.joinWaiting p = { s with grant := { s.grant with
    waiting := if p ∈ s.grant.waiting then s.grant.waiting else s.grant.waiting ++ [p] } } := by
  by_cases h : p ∈ s.grant.waiting
  · rw [State.joinWaiting, if_pos (List.contains_iff_mem.2 h), if_pos h]
  · rw [State.joinWaiting, if_neg (mt List.contains_iff_mem.1 h), if_neg h]

theorem State.stopWaiting_eq (s : State) (p : Port) : s.stopWaiting p = { s with grant := { s.grant with
    waiting := s.grant.waiting.filter (· ≠ p) } } := by
  have hfilter : s.grant.waiting.filter (· != p) = s.grant.waiting.filter (· ≠ p) :=
    List.filter_congr fun q _ => Bool.eq_iff_iff.2 (by rw [bne_iff_ne, decide_eq_true_iff])
  rw [State.stopWaiting, hfilter]

include hserved

theorem exec_grantRequest_free (hfree : s.grant.state = .free) :
    exec (.grantRequest r) s = .next ((s.beginTenure r.port s.grant.waiting).answer r 0x20#8 [[0x03#8]]) := by
  rw [exec, execGrantRequest, State.request_served codeGrantRequest () _ hserved]
  simp only [hfree]
  rfl

theorem exec_grantRequest_holder (hheld : s.grant.state = .held r.port) :
    exec (.grantRequest r) s = .next (s.refreshIdle.answer r 0x20#8 [[0x03#8]]) := by
  rw [exec, execGrantRequest, State.request_served codeGrantRequest () _ hserved]
  simp only [hheld, if_true]
  rfl

theorem exec_grantRequest_waits (hfree : s.grant.state ≠ .free) (hheld : s.grant.state ≠ .held r.port) :
    exec (.grantRequest r) s = .next ((s.joinWaiting r.port).answer r 0x20#8 [[0x02#8]]) := by
  rw [exec, execGrantRequest, State.request_served codeGrantRequest () _ hserved]
  cases hstate : s.grant.state with
  | free => exact absurd hstate hfree
  | held p =>
    have hother : p ≠ r.port := fun h => hheld (h ▸ hstate)
    simp only [if_neg hother]
    rfl
  | saving => rfl

theorem exec_grantRelease_holder (hheld : s.grant.state = .held r.port) :
    exec (.grantRelease r) s = .next ((s.endTenure r.port).answer r 0x21#8 [[0]]) := by
  rw [exec, execGrantRelease, State.request_served codeGrantRelease () _ hserved, if_pos hheld]
  rfl

theorem exec_grantRelease_waiter (hheld : s.grant.state ≠ .held r.port) (hwaits : r.port ∈ s.grant.waiting) :
    exec (.grantRelease r) s = .next ((s.stopWaiting r.port).answer r 0x21#8 [[0]]) := by
  rw [exec, execGrantRelease, State.request_served codeGrantRelease () _ hserved, if_neg hheld,
    if_pos (List.contains_iff_mem.2 hwaits)]
  rfl

theorem exec_grantRelease_notHeld (hheld : s.grant.state ≠ .held r.port) (hwaits : r.port ∉ s.grant.waiting) :
    exec (.grantRelease r) s = .next (s.answer r 0x21#8 [[0x84#8]]) := by
  rw [exec, execGrantRelease, State.request_served codeGrantRelease () _ hserved, if_neg hheld,
    if_neg (mt List.contains_iff_mem.1 hwaits), s.refuse_of_ne r .notHeld (by decide)]
  rfl

end GrantRequests

/-- Settles O40. -/
theorem grantRequestAndRelease : Obligations.GrantRequestAndRelease := by
  refine fun r s hserved _ => ⟨exec_grantRequest_free hserved, fun hheld => ?holder, fun hfree hheld => ?waits,
    exec_grantRelease_holder hserved, fun hheld hwaits => ?leaves, exec_grantRelease_notHeld hserved⟩
  case holder => rw [exec_grantRequest_holder hserved hheld, State.refreshIdle_eq]
  case waits => rw [exec_grantRequest_waits hserved hfree hheld, State.joinWaiting_eq]
  case leaves => rw [exec_grantRelease_waiter hserved hheld hwaits, State.stopWaiting_eq]

/-! ### The handover (R152) -/

theorem State.handover_nobody {s : State} (h : s.grant.waiting = []) :
    s.handover = { s with grant := { s.grant with state := .free } } := by
  unfold State.handover; rw [h]

/-- A tenure begun at the tick `now` (R146, R152). -/
theorem State.beginTenure_eq {s : State} {now : Tick} (h : s.tick = now) (p : Port) (waiting : List Port) :
    s.beginTenure p waiting = { s with grant := { s.grant with
      state := .held p, waiting := waiting, marks := .all false, idleTimer := some now } } := by
  subst h; rfl

theorem State.handover_next {s : State} {p : Port} {waiting : List Port} (h : s.grant.waiting = p :: waiting) :
    s.handover = (s.beginTenure p waiting).notice codeGranted [byteOf (portCode p)] := by
  unfold State.handover; rw [h]

/-! ### The end of a tenure (R147, R151) -/

/-- The session ended and the idle timer stopped: the first two steps of a tenure's end (R151). -/
def State.tenureLeft (s : State) : State :=
  { s.endTeach .aborted with grant := { (s.endTeach .aborted).grant with idleTimer := none } }

theorem State.tenureLeft_eq (s : State) : s.tenureLeft =
    { s with
      teach := none, ports := (s.endTeach .aborted).ports, grant := { s.grant with idleTimer := none } } := by
  unfold State.tenureLeft; rw [State.endTeach_eq]

/-- The part with the marked sections and P handed over for saving, under a new revision (R151). -/
def State.savingBegun (s : State) (marks : PerSection Bool) (revision : Word16) : State :=
  { s with grant := { s.grant with
      state := .saving, revision := revision, toSave := sectionsToSave marks, marks := .all false } }

theorem State.endTenure_eq_ite (s : State) (p : Port) : s.endTenure p =
    if anyMark s.tenureLeft.grant.marks then
      (s.tenureLeft.savingBegun s.tenureLeft.grant.marks (nextRevision s.tenureLeft.grant.revision)).notice
        codeTableRevision (revisionBytes (nextRevision s.tenureLeft.grant.revision) s.tenureLeft.grant.marks p)
    else s.tenureLeft.handover := rfl

theorem State.endTenure_unchanged {s : State} (p : Port) (h : s.grant.marks = .all false) :
    s.endTenure p = s.tenureLeft.handover := by
  have hmarks : s.tenureLeft.grant.marks = .all false := by rw [State.tenureLeft_eq]; exact h
  rw [State.endTenure_eq_ite, hmarks]
  rfl

theorem State.endTenure_changed {s : State} (p : Port) (h : s.grant.marks ≠ .all false) : s.endTenure p =
    (s.tenureLeft.savingBegun s.grant.marks (nextRevision s.grant.revision)).notice codeTableRevision
      (revisionBytes (nextRevision s.grant.revision) s.grant.marks p) := by
  have hmarks : s.tenureLeft.grant.marks = s.grant.marks := by rw [State.tenureLeft_eq]
  have hrevision : s.tenureLeft.grant.revision = s.grant.revision := by rw [State.tenureLeft_eq]
  have hchanged : anyMark s.grant.marks = true := by
    by_contra hnone
    exact h (anyMark_eq_false hnone)
  rw [State.endTenure_eq_ite, hmarks, hrevision, if_pos hchanged]

theorem revisionBytes_eq (revision : Word16) (m : PerSection Bool) (p : Port) : revisionBytes revision m p =
    be16 revision.toNat ++ [byteOf ((if m.t = true then 1 else 0) + (if m.l = true then 2 else 0) + 4),
      byteOf (portCode p)] := by
  obtain ⟨t, l, _⟩ := m
  cases t <;> cases l <;> rfl

theorem exec_idleExpiry_due {s : State} {p : Port} {start : Tick} (hheld : s.grant.state = .held p)
    (htimer : s.grant.idleTimer = some start) (hdue : 300 ≤ (s.tick - start).toNat) :
    exec .idleExpiry s = .next ((s.notice codeGrantLost [byteOf (portCode p)]).endTenure p) := by
  have hout : ranOut s.grant.idleTimer s.tick Config.idleTicks = true := by
    rw [htimer]; exact decide_eq_true hdue
  simp only [exec, execIdleExpiry, hheld, if_pos hout]

theorem exec_idleExpiry_notDue {s : State} (h : s.grant.idleTimer = none ∨
    (∃ start, s.grant.idleTimer = some start ∧ (s.tick - start).toNat < 300)) : exec .idleExpiry s = .next s := by
  have hrunning : ranOut s.grant.idleTimer s.tick Config.idleTicks = false := by
    obtain htimer | ⟨start, htimer, hearly⟩ := h
    · rw [htimer]; rfl
    · rw [htimer]; exact decide_eq_false (Nat.not_le.2 hearly)
  rw [exec, execIdleExpiry]
  cases s.grant.state with
  | free => rfl
  | held p => simp only [hrunning, Bool.false_eq_true, if_false]
  | saving => rfl

/-- Settles O41. -/
theorem tenureEndSavesChanges : Obligations.TenureEndSavesChanges := by
  refine ⟨fun s s1 p _ hs1 => ⟨fun hmarks hnobody => ?free, fun q waiting hmarks hnext => ?next,
    fun revision hmarks hrevision => ?saving⟩, fun s p start => exec_idleExpiry_due,
    fun s => exec_idleExpiry_notDue⟩
  all_goals subst hs1
  case free =>
    rw [State.endTenure_unchanged p hmarks, State.handover_nobody (by rw [State.tenureLeft_eq]; exact hnobody)]
    rfl
  case next =>
    have htick : s.tenureLeft.tick = s.tick := by rw [State.tenureLeft_eq]
    rw [State.endTenure_unchanged p hmarks, State.handover_next (by rw [State.tenureLeft_eq]; exact hnext),
      State.beginTenure_eq htick]
    rfl
  case saving =>
    subst hrevision
    rw [State.endTenure_changed p hmarks, revisionBytes_eq]
    rfl

/-! ### SECTION SAVE (R152, R162, R163) -/

/-- The part with section `n` written, or erased after two failed verifies, and `rest` still to save. -/
def State.sectionDealt (s : State) (n : SectionName) (rest : List SectionName) (r : SaveResult) : State :=
  { s with
    store := s.store.set n (if r = .failedTwice then erasedSection n else s.sectionImage n)
    flags := s.flags.set n
      (if r = .failedTwice then { s.flags.get n with writeFailed := true }
       else { defaulted := false, writeFailed := false })
    grant := { s.grant with toSave := rest } }

theorem State.finishSection_eq (s : State) (n : SectionName) (rest : List SectionName) (r : SaveResult) :
    s.finishSection n rest r =
      if rest.isEmpty then (s.sectionDealt n rest r).handover else s.sectionDealt n rest r := by
  cases r <;> rfl

theorem exec_sectionSave_saving {s : State} {n : SectionName} {rest : List SectionName} (r : SaveResult)
    (hsaving : s.grant.state = .saving) (hsave : s.grant.toSave = n :: rest) :
    exec (.sectionSave r) s = .next
      (if rest.isEmpty then (s.sectionDealt n rest r).handover else s.sectionDealt n rest r) := by
  rw [exec, execSectionSave, if_pos hsaving, hsave, ← State.finishSection_eq]

/-- Settles O6: sections still to save, or the handover to nobody or to the oldest waiter. -/
theorem sectionSaveWritesThenHandsOver : Obligations.SectionSaveWritesThenHandsOver := by
  intro r n rest s hsaving hsave
  have hexec := exec_sectionSave_saving r hsaving hsave
  cases rest with
  | cons m rest =>
    exact ⟨_, hexec, rfl, rfl, rfl, fun _ => ⟨rfl, rfl⟩, nofun, nofun⟩
  | nil =>
    rw [List.isEmpty_nil, if_pos rfl] at hexec
    cases hwaiting : s.grant.waiting with
    | nil =>
      rw [State.handover_nobody (s := s.sectionDealt n [] r) hwaiting] at hexec
      exact ⟨_, hexec, rfl, rfl, rfl, fun h => absurd rfl h, fun _ _ => ⟨rfl, rfl⟩, nofun⟩
    | cons q waiting =>
      rw [State.handover_next (s := s.sectionDealt n [] r) hwaiting] at hexec
      refine ⟨_, hexec, rfl, rfl, rfl, fun h => absurd rfl h, nofun, fun p others _ hnext => ?_⟩
      obtain ⟨rfl, rfl⟩ := List.cons.inj hnext
      exact ⟨rfl, rfl⟩

/-! ### The truck lock stands (R157) -/

/-- The truck lock is set. -/
def State.Locked (s : State) : Prop := s.grant.truckLock = true

theorem State.Locked.of_grant {s t : State} (hs : s.Locked) (h : t.grant.truckLock = s.grant.truckLock) : t.Locked :=
  h.trans hs

/-- What leaves walk and grant alone leaves the lock. -/
theorem State.Locked.keeps {s t : State} (hs : s.Locked) (h : s.KeepsTenure t) : t.Locked :=
  hs.of_grant (congrArg Grant.truckLock h.grant)

theorem locked_ite {p : Prop} [Decidable p] {t u : State} (ht : t.Locked) (hu : u.Locked) :
    (if p then t else u).Locked := by
  split
  · exact ht
  · exact hu

section Locked

variable {s : State} (hs : s.Locked)
include hs

theorem State.Locked.endTeach (o : TeachOutcome) : (s.endTeach o).Locked := hs.of_grant (by rw [State.endTeach_eq])

theorem State.Locked.removeFromTeach (gone : Pos → Bool) (also : Bool) (o : TeachOutcome) :
    (s.removeFromTeach gone also o).Locked := hs.of_grant (by rw [State.removeFromTeach_eq])

theorem State.Locked.deliver (d : Delivery) : (s.deliver d).Locked := hs.of_grant (by rw [State.deliver_eq])

theorem State.Locked.takeByte (i : Fin 4) (v : Byte) : (s.takeByte i v).Locked := by
  obtain ⟨y, hbyte | ⟨copy, -, hbyte⟩, -⟩ := s.takeByte_cases i v
  · rw [hbyte]; exact hs
  · rw [hbyte]
    unfold State.takeCopy
    refine locked_ite hs (locked_ite hs ?_)
    split
    · exact hs
    · next oldest rest _ =>
      have hclosed : State.Locked { s.setLine i y with merge := rest } := hs
      exact hclosed.deliver _

theorem State.Locked.trailerFollows : s.trailerFollows.Locked := hs.of_grant (by rw [State.trailerFollows_eq])

theorem State.Locked.handover : s.handover.Locked := by
  unfold State.handover
  split
  · exact hs
  · exact hs

theorem State.Locked.endTenure (p : Port) : (s.endTenure p).Locked := hs.of_grant (by rw [State.endTenure_eq])

theorem State.Locked.portReset (p : Port) : (s.portReset p).Locked := hs.of_grant (by rw [State.portReset_eq])

theorem State.Locked.refreshIdle : s.refreshIdle.Locked := hs.of_grant s.refreshIdle_grant_truckLock

/-- How every accepted edit of the wheel table ends: the idle timer, the WARN level (R128, R147). -/
theorem State.Locked.settled : s.refreshIdle.recomputeWarn.Locked :=
  hs.refreshIdle.keeps (State.keepsTenure_recomputeWarn _)

theorem State.Locked.reevaluate : s.reevaluate.Locked := hs.keeps s.keepsTenure_reevaluate

theorem State.Locked.takeKind (a : AxleNo) (k : AxleKind) : (s.takeKind a k).Locked :=
  locked_ite hs (hs.of_grant (by rw [State.changeKind_eq]))

theorem State.Locked.applyAxle (w : AxleWrite) (k : AxleKind) : (s.applyAxle w k).Locked := by
  have hwritten : ((s.takeKind w.axle k).setAxle w.axle (s.axleWritten w k)).Locked := hs.takeKind w.axle k
  have hmarked := locked_ite (p := s.axleWritten w k = s.axle w.axle) hwritten
    (hwritten.of_grant (State.mark_grant_truckLock _ (sectionOf (truckAxle w.axle))))
  rw [State.applyAxle_eq]
  exact (locked_ite hmarked hmarked.reevaluate).settled

theorem State.Locked.applyProfile (i : ProfileNo) (x : Profile) : (s.applyProfile i x).Locked := by
  have hstored : (s.setProfile i x).Locked := hs
  have hmarked : ((s.setProfile i x).mark .p).Locked := hs
  unfold State.applyProfile; dsimp only
  exact (locked_ite hstored (locked_ite hmarked.reevaluate hmarked)).settled

theorem State.Locked.applySettings (x : Settings) : (s.applySettings x).Locked := by
  have hmarked : ∀ ports : PerPort PortCtl, (if x = s.settings then ({ s with settings := x, ports := ports } : State)
      else ({ s with settings := x, ports := ports } : State).mark .p).Locked := fun _ => locked_ite hs hs
  have hstored : ∀ u : State, u.Locked →
      (if x.tref = s.settings.tref then u else u.reevaluate).refreshIdle.recomputeWarn.Locked := fun u hu =>
    (locked_ite hu hu.reevaluate).settled
  unfold State.applySettings; dsimp only
  exact locked_ite (hstored _ (hmarked _)) ((hstored _ (hmarked _)).keeps (State.keepsTenure_restartFlash _))

theorem State.Locked.clearVehicleSection (truck : Bool) : (s.clearVehicleSection truck).Locked := by
  have hreset : (s.sectionReset truck).Locked := hs.of_grant (by rw [State.sectionReset_eq])
  have hleft := hreset.removeFromTeach (s.sectionGone truck) true .complete
  rw [State.clearVehicleSection_eq]
  exact locked_ite (hleft.of_grant (State.mark_grant_truckLock _ _)) hleft

theorem State.Locked.answer (r : Request) (code : Byte) (frames : List (List Byte)) : (s.answer r code frames).Locked :=
  hs.keeps (s.keepsTenure_answer r code frames)

theorem State.Locked.reply (r : Request) (code : Byte) (o : Reply) : (s.reply r code o).Locked :=
  hs.answer r code [[o.code]]

theorem State.Locked.refuse (r : Request) (code : Byte) (o : Reply) : (s.refuse r code o).Locked :=
  hs.keeps (s.keepsTenure_refuse r code o)

theorem State.Locked.request {α : Type} {r : Request} {code : Byte} {ops : Option α} {own : α → State → State}
    (hown : ∀ x, (own x s).Locked) : (s.request r code ops own).Locked := by
  obtain h | ⟨o, h⟩ | ⟨-, x, -, h⟩ := s.request_cases r code ops own
  · rw [h]; exact hs
  · rw [h]; exact hs.refuse r code o
  · rw [h]; exact hown x

theorem State.Locked.edit {α : Type} {r : Request} {code : Byte} {ops : Option α} {own : α → State → State}
    (hown : ∀ x, (own x s).Locked) : (s.edit r code ops own).Locked :=
  hs.request fun x => locked_ite (hown x) (hs.refuse r code .noGrant)

theorem State.Locked.exec_of_event {c : Instr} {t : State} (hreset : ∀ straps cut, c ≠ .deviceReset straps cut)
    (hc : requestOf c = none) (h : exec c s = .next t) : t.Locked := by
  cases c with
  | deviceReset straps cut => exact absurd rfl (hreset straps cut)
  | endOfStarting =>
    cases h
    have hstarted : s.startRunning.Locked := hs
    exact locked_ite ((locked_ite (hstarted.keeps (State.keepsTenure_bodyRises _)) hstarted).keeps
      (State.keepsTenure_recomputeWarn _)) hs
  | receivedByte i high v => cases h; exact locked_ite (hs.takeByte i v) hs
  | windowExpiry id seq =>
    cases h
    split
    · exact hs
    · next rest _ =>
      have hclosed : State.Locked { s with merge := rest } := hs
      exact locked_ite (hclosed.deliver _) hs
  | deadlineExpiry p =>
    cases h
    exact locked_ite (hs.keeps ((s.keepsTenure_fallMissing p).trans (State.keepsTenure_recomputeWarn _))) hs
  | stepDeadlineExpiry =>
    cases h
    split
    · exact hs
    · exact locked_ite (hs.endTeach .timeout) hs
  | trlDebounceExpiry =>
    rw [exec_trlDebounceExpiry] at h
    cases h
    exact locked_ite (hs.trailerFollows.keeps (State.keepsTenure_recomputeWarn _)) hs
  | bodyDebounceExpiry =>
    rw [exec_bodyDebounceExpiry] at h
    cases h
    have hfollowed : s.bodyFollowed.Locked := hs
    exact locked_ite ((locked_ite (hfollowed.keeps (State.keepsTenure_bodyRises _))
      (hfollowed.keeps (State.keepsTenure_bodyFalls _))).keeps (State.keepsTenure_recomputeWarn _)) hs
  | trlChange high | bodyChange high => cases h; exact hs
  | gapExpiry run => cases h; exact locked_ite hs hs
  | flashPhase => cases h; exact locked_ite hs hs
  | cyclicReport port => exact hs.keeps (exec_cyclicReport_keepsTenure h)
  | frameOffer port => exact hs.keeps (exec_frameOffer_keepsTenure h)
  | busOffReturn port => exact hs.keeps (exec_busOffReturn_keepsTenure h)
  | attemptEnd port result =>
    cases h
    refine locked_ite ?_ hs
    cases result with
    | success | lostArbitration => exact hs
    | failure => exact locked_ite (hs.portReset port) hs
  | idleExpiry =>
    cases h
    split
    · exact locked_ite ((hs.keeps (State.keepsTenure_notice ..)).endTenure _) hs
    · exact hs
    · exact hs
  | sectionSave result =>
    cases h
    refine locked_ite ?_ hs
    split
    · exact hs
    · next n rest _ =>
      have hdealt : (s.sectionDealt n rest result).Locked := hs
      rw [State.finishSection_eq]
      exact locked_ite hdealt.handover hdealt
  | keptTickSaturation =>
    obtain rfl : s.saturated = t := Host.Outcome.next.inj h
    exact hs.keeps s.keepsTenure_saturated
  | _ => cases hc

theorem State.Locked.exec_of_request {c : Instr} {t : State} (hc : (requestOf c).isSome = true)
    (h : exec c s = .next t) : t.Locked := by
  cases c with
  | readPosition r | readAxle r | readProfile r | readSettings r | readStack r =>
    cases h; exact hs.request fun _ => hs.answer ..
  | readForeign r =>
    cases h
    refine hs.request fun i => ?_
    split
    · exact hs.refuse ..
    · exact hs.answer ..
  | readLineStatus r =>
    cases h
    exact hs.request fun q => (locked_ite (t := s.setLine q.1 _) hs hs).answer ..
  | readStatus r =>
    cases h
    exact hs.request fun _ => State.Locked.answer (s := s.setPort r.port _) hs ..
  | ack r =>
    cases h
    exact hs.request fun ps => (hs.keeps ((s.keepsTenure_mapPos _).trans (State.keepsTenure_recomputeWarn _))).answer ..
  | hold r =>
    cases h
    refine hs.request fun p => ?_
    have hheld := hs.keeps ((s.keepsTenure_takeHold p).trans (State.keepsTenure_recomputeWarn _))
    have htaken := hheld.reply r codeHold .done
    split
    · exact hs.refuse ..
    · exact hs.refuse ..
    · exact hs.reply ..
    · exact htaken
    · exact htaken
    · exact htaken
  | unhold r =>
    cases h
    exact hs.request fun p => locked_ite
      ((hs.keeps ((s.keepsTenure_restoreHold p).trans (State.keepsTenure_recomputeWarn _))).reply ..) (hs.reply ..)
  | push r =>
    cases h
    exact hs.request fun i =>
      (hs.keeps ((s.keepsTenure_changeStack _).trans (State.keepsTenure_recomputeWarn _))).reply ..
  | pop r =>
    cases h
    refine hs.request fun _ => ?_
    split
    · exact hs.refuse ..
    · exact (hs.keeps ((s.keepsTenure_changeStack _).trans (State.keepsTenure_recomputeWarn _))).reply ..
  | grantRequest r =>
    cases h
    refine hs.request fun _ => ?_
    have hjoined : (s.joinWaiting r.port).Locked := locked_ite hs hs
    split
    · exact State.Locked.reply (s := s.beginTenure r.port _) hs ..
    · exact locked_ite (hs.refreshIdle.reply ..) (hjoined.reply ..)
    · exact hjoined.reply ..
  | grantRelease r =>
    cases h
    exact hs.request fun _ => locked_ite ((hs.endTenure _).reply ..)
      (locked_ite (State.Locked.reply (s := s.stopWaiting r.port) hs ..) (hs.refuse ..))
  | writePosition r =>
    cases h
    refine hs.edit fun w => locked_ite (hs.refuse ..) (locked_ite (hs.refuse ..)
      (locked_ite ?_ (hs.refreshIdle.reply ..)))
    have hwritten : ((s.recordReset w.1 w.2).mark (sectionOf (inTruck w.1))).Locked := hs
    exact hwritten.settled.reply ..
  | writeAxle r =>
    cases h
    refine hs.edit fun w => ?_
    dsimp only
    split
    · exact hs.refuse ..
    · exact locked_ite (hs.refreshIdle.reply ..) (locked_ite (hs.refuse ..) ((hs.applyAxle ..).reply ..))
  | writeProfile r =>
    cases h
    exact hs.edit fun w => locked_ite ((hs.applyProfile ..).reply ..) (hs.refreshIdle.reply ..)
  | writeSettings r =>
    cases h
    refine hs.edit fun w => ?_
    split
    · exact hs.refuse ..
    · exact (hs.applySettings _).reply ..
  | clearSection r =>
    cases h
    exact hs.edit fun truck => locked_ite (hs.refuse ..) ((hs.clearVehicleSection truck).settled.reply ..)
  | lockTruck r =>
    cases h
    refine hs.edit fun _ => ?_
    have hset : State.Locked { s with grant := { s.grant with truckLock := true } } := rfl
    exact hset.refreshIdle.reply ..
  | teachStart r =>
    cases h
    refine hs.edit fun codes => locked_ite (hs.refuse ..) ?_
    split
    · exact hs.refuse ..
    · exact State.Locked.answer (s := s.sessionStands _) hs ..
  | teachAppend r =>
    cases h
    refine hs.edit fun codes => ?_
    split
    · exact hs.refuse ..
    · next session _ =>
      split
      · exact hs.refuse ..
      · next ps _ => exact State.Locked.answer (s := { s with teach := some { session with queue := _ } }) hs ..
  | teachAbort r =>
    cases h
    refine hs.edit fun _ => ?_
    split
    · exact hs.refuse ..
    · exact (hs.endTeach .aborted).reply ..
  | vehicleState r =>
    cases h
    have htaken : State.Locked { s with context := s.contextAfter r } := hs
    exact locked_ite (htaken.reevaluate.keeps (State.keepsTenure_recomputeWarn _)) hs
  | unknownRequest code r =>
    cases hcode : namesRequest code with
    | false =>
      rw [exec_unknownRequest hcode] at h
      cases h
      exact hs.request fun _ => hs
    | true => rw [exec_unknownRequest_known hcode] at h; cases h
  | _ => cases hc

/-- Only a device reset clears the truck lock. -/
theorem State.Locked.exec {c : Instr} {t : State} (hreset : ∀ straps cut, c ≠ .deviceReset straps cut)
    (h : exec c s = .next t) : t.Locked := by
  cases hc : requestOf c with
  | none => exact hs.exec_of_event hreset hc h
  | some codeAndFrame => exact hs.exec_of_request (hc ▸ rfl) h

end Locked

/-! ### What the truck lock shields (R157) -/

/-- The sensors of the truck positions and the kinds of the truck axles are in `t` as in `s`. -/
structure State.TruckStands (s t : State) : Prop where
  sensors : ∀ p, inTruck p = true → t.sensors p = s.sensors p
  kinds : ∀ a, truckAxle a = true → (t.axle a).kind = (s.axle a).kind

theorem State.TruckStands.of_eq {s t : State} (hsensors : t.sensors = s.sensors) (haxles : t.axles = s.axles) :
    s.TruckStands t :=
  ⟨fun p _ => congrFun hsensors p, fun a _ => congrArg Axle.kind (State.axle_congr haxles a)⟩

theorem State.TruckStands.of_holdings {s t : State} (h : t.holdings = s.holdings) : s.TruckStands t :=
  .of_eq (State.sensors_of_holdings h) (congrArg Holdings.axles h)

theorem State.TruckStands.trans {s t u : State} (h : s.TruckStands t) (k : t.TruckStands u) : s.TruckStands u :=
  ⟨fun p hp => (k.sensors p hp).trans (h.sensors p hp), fun a ha => (k.kinds a ha).trans (h.kinds a ha)⟩

theorem State.TruckStands.settles {s t u : State} (h : s.TruckStands t) (k : t.Settles u) : s.TruckStands u :=
  h.trans (.of_eq k.sensors k.axles)

theorem truckStands_ite {p : Prop} [Decidable p] {s t u : State} (ht : p → s.TruckStands t)
    (hu : ¬ p → s.TruckStands u) : s.TruckStands (if p then t else u) := by
  split
  · next h => exact ht h
  · next h => exact hu h

theorem State.TruckStands.edit {α : Type} {s : State} {r : Request} {code : Byte} {ops : Option α}
    {own : α → State → State} (hown : ∀ x, s.TruckStands (own x s)) : s.TruckStands (s.edit r code ops own) := by
  obtain h | ⟨o, h⟩ | ⟨-, x, -, h⟩ := s.edit_cases r code ops own
  · rw [h]; exact .of_holdings rfl
  · rw [h]; exact .of_holdings (s.holdings_refuse r code o)
  · rw [h]; exact hown x

/-- A sensor moved between positions of the trailer is at no truck position, before or after. -/
theorem movedSensors_truck (sensors : Pos → Option SensorId) {h p : Pos} {q : Option Pos} (id : SensorId)
    (hh : inTruck h = false) (hq : ∀ k, q = some k → inTruck k = false) (hp : inTruck p = true) :
    movedSensors sensors h q id p = sensors p := by
  have hhead : p ≠ h := by rintro rfl; exact Bool.false_ne_true (hh.symm.trans hp)
  have hleft : q ≠ some p := fun hq' => Bool.false_ne_true ((hq p hq').symm.trans hp)
  rw [movedSensors, if_neg hhead, if_neg hleft]

section Shielded

variable {s : State} (hlock : s.Locked)

/-- A WRITE AXLE of a trailer axle, or one that keeps the kind, moves nothing of the truck (R154). -/
theorem State.truckStands_applyAxle {w : AxleWrite} {k : AxleKind}
    (hopen : k = (s.axle w.axle).kind ∨ truckAxle w.axle = false) : s.TruckStands (s.applyAxle w k) := by
  have hstays : ∀ p, inTruck p = true → s.stopsExisting w.axle k p = false := fun p hp => by
    obtain rfl | htrailer := hopen
    · exact s.stopsExisting_same w.axle p
    · refine Bool.eq_false_iff.2 fun hgone => ?_
      obtain ⟨haxle, -, -⟩ := State.stopsExisting_eq_true.1 hgone
      rw [inTruck_eq_truckAxle, haxle, htrailer] at hp
      cases hp
  refine State.TruckStands.settles ⟨fun p hp => ?sensors, fun a ha => ?kinds⟩ (s.applyAxle_settles w k)
  case sensors => exact (s.sensors_takeKind w.axle k p).trans (if_neg (Bool.eq_false_iff.1 (hstays p hp)))
  case kinds =>
    rw [State.axle_setAxle]
    split
    · next hwritten =>
      subst hwritten
      exact hopen.resolve_right fun htrailer => by rw [ha] at htrailer; cases htrailer
    · next hother => rw [State.axle_takeKind_ne s k hother]

include hlock

/-- A trigger of the walk moves no sensor to or from a truck position. -/
theorem State.sensors_teachTrigger_locked (t : TeachSession) (d : Delivery) {p : Pos} (hp : inTruck p = true) :
    (s.teachTrigger t d).sensors p = s.sensors p := by
  unfold State.teachTrigger
  split
  · rfl
  · next h rest _ =>
    split
    · next q _ =>
      have hlands : ∀ code k, ((s.landNormally q d).teachIgnored code d.id k h).sensors = s.sensors := fun code k =>
        (State.sensors_congr (State.notice_positions ..)).trans (s.sensors_landNormally q d)
      split
      · rw [State.sensors_teachConfirm]
      · split
        · rw [hlands]
        · split
          · rw [hlands]
          · next hopen =>
            rw [hlock, Bool.true_and, Bool.or_eq_true, not_or, Bool.not_eq_true, Bool.not_eq_true] at hopen
            obtain ⟨hq, hh⟩ := hopen
            rw [State.sensors_teachAssign]
            exact movedSensors_truck _ _ hh (by rintro k ⟨⟩; exact hq) hp
    · split
      · exact congrFun (State.sensors_congr (State.notice_positions ..)) p
      · next hopen =>
        rw [hlock, Bool.true_and, Bool.not_eq_true] at hopen
        rw [State.sensors_teachAssign]
        exact movedSensors_truck _ _ hopen nofun hp

theorem State.truckStands_deliver (d : Delivery) : s.TruckStands (s.deliver d) := by
  refine ⟨fun p hp => ?_, fun a _ => by rw [State.axle_congr (s := s) (by rw [State.deliver_eq])]⟩
  have htriggered : ∀ t, (s.teachTrigger t d).recomputeWarn.sensors p = s.sensors p := fun t => by
    rw [State.sensors_recomputeWarn, State.sensors_teachTrigger_locked hlock t d hp]
  unfold State.deliver
  split
  · split
    · exact htriggered _
    · rfl
  · split
    · rfl
    · split
      · exact htriggered _
      · rw [State.sensors_recomputeWarn, State.sensors_landNormally]

/-! The three edits that the lock refuses at the truck. -/

theorem exec_writePosition_truckStands {r : Request} {t : State} (h : exec (.writePosition r) s = .next t) :
    s.TruckStands t := by
  cases h
  refine .edit fun w => truckStands_ite (fun _ => .of_holdings (s.holdings_refuse ..)) fun _ =>
    truckStands_ite (fun _ => .of_holdings (s.holdings_refuse ..)) fun hopen => truckStands_ite (fun hchanges => ?_)
    fun _ => .of_holdings (by rw [State.holdings_reply, State.holdings_refreshIdle])
  rw [hchanges, Bool.true_and, hlock, Bool.and_true, Bool.not_eq_true] at hopen
  have hreset : s.TruckStands (s.recordReset w.1 w.2) := by
    refine ⟨fun p hp => ?_, fun _ _ => rfl⟩
    have hother : p ≠ w.1 := by rintro rfl; rw [hp] at hopen; cases hopen
    rw [State.sensors_recordReset, if_neg hother]
  refine hreset.trans (.of_holdings ?_)
  rw [State.holdings_reply, State.holdings_recomputeWarn, State.holdings_refreshIdle, State.holdings_mark]

theorem exec_writeAxle_truckStands {r : Request} {t : State} (h : exec (.writeAxle r) s = .next t) :
    s.TruckStands t := by
  cases h
  refine .edit fun w => ?_
  dsimp only
  split
  · exact .of_holdings (s.holdings_refuse ..)
  · next k _ =>
    refine truckStands_ite (fun _ => .of_holdings (by rw [State.holdings_reply, State.holdings_refreshIdle])) fun _ =>
      truckStands_ite (fun _ => .of_holdings (s.holdings_refuse ..)) fun hopen => ?_
    rw [hlock, Bool.and_true, Bool.and_eq_true, bne_iff_ne, not_and, Bool.not_eq_true] at hopen
    exact (State.truckStands_applyAxle (or_iff_not_imp_left.2 hopen)).trans (.of_holdings (State.holdings_reply ..))

theorem exec_clearSection_truckStands {r : Request} {t : State} (h : exec (.clearSection r) s = .next t) :
    s.TruckStands t := by
  cases h
  refine .edit fun truck => truckStands_ite (fun _ => .of_holdings (s.holdings_refuse ..)) fun hopen => ?_
  rw [hlock, Bool.and_true, Bool.not_eq_true] at hopen
  subst hopen
  have hcleared : s.TruckStands (s.clearVehicleSection false) := by
    refine ⟨fun p hp => ?_, fun a ha => ?_⟩
    · rw [State.sensors_clearVehicleSection, if_neg (by rw [hp]; nofun)]
    · rw [State.axle_congr (s.axles_clearVehicleSection false), State.axle_sectionAbsent, if_neg (by rw [ha]; nofun)]
  refine hcleared.trans (.of_holdings ?_)
  rw [State.holdings_reply, State.holdings_recomputeWarn, State.holdings_refreshIdle]

/-- The edits that may give a truck position a sensor or a truck axle a kind. -/
def editsTruck : Instr → Bool
  | .writePosition _ => true
  | .writeAxle _ => true
  | .clearSection _ => true
  | _ => false

/-- Of the other moves of the wheel table only a delivery's asks for the lock. -/
theorem State.Moves.truckStands {c : Instr} {u : State} (hp : s.phase = .running)
    (hreset : ∀ straps cut, c ≠ .deviceReset straps cut) (hedit : editsTruck c = false) (h : s.Moves c u) :
    s.TruckStands u := by
  have hstarting : s.phase ≠ .starting := by rw [hp]; nofun
  cases h with
  | stays c => exact .of_holdings rfl
  | restarts straps cut => exact absurd rfl (hreset straps cut)
  | starts hs => exact absurd hs hstarting
  | startsRaised change hs hc => exact absurd hs hstarting
  | delivers c ready e later hm hh ht hg =>
    have hready : ready.Locked := hlock.of_grant (by rw [hg])
    exact (State.TruckStands.of_holdings hh).trans (State.truckStands_deliver hready e.delivery)
  | expires p hdue => exact .of_eq (s.sensors_fallMissing p) (by rw [State.fallMissing_eq])
  | couples htrailer => exact .of_eq s.sensors_recouple (by rw [State.recouple_eq])
  | decouples htrailer => exact .of_eq s.sensors_decouple (by rw [State.decouple_eq])
  | restacks c ready change hh hc =>
    exact (State.TruckStands.of_holdings hh).trans
      (.of_eq (ready.sensors_changeStack change) (by rw [State.changeStack_eq]))
  | acknowledges r ps => exact .of_eq (s.sensors_acknowledge r ps) (s.mapPos_axles _)
  | holds r p hstate => exact .of_eq (s.sensors_takeHold p) (by rw [State.takeHold_eq])
  | unholds r p hstate => exact .of_eq (s.sensors_restoreHold p) (by rw [State.restoreHold_eq])
  | writesPosition r p id hr hid => cases hedit
  | writesAxle r w k hr => cases hedit
  | clears r truck hr => cases hedit
  | writesProfile r w hr =>
    have hstored : s.TruckStands (s.setProfile w.index (w.result (s.profile w.index)).1) := .of_eq rfl rfl
    exact hstored.settles (s.applyProfile_settles _ _)
  | writesSettings r w x hr hx =>
    have hstored : s.TruckStands { s with settings := x } := .of_eq rfl rfl
    exact hstored.settles (s.applySettings_settles x)
  | takesContext r hrunning => exact .of_eq (State.sensors_reevaluate _) (State.reevaluate_axles _)
  | saturates => exact .of_eq s.sensors_saturated (by rw [State.saturated_frame])

/-- While the lock is set no command but a device reset moves a truck sensor or a truck axle's kind. -/
theorem exec_truckStands {c : Instr} {t : State} (hp : s.phase = .running)
    (hreset : ∀ straps cut, c ≠ .deviceReset straps cut) (h : exec c s = .next t) : s.TruckStands t := by
  cases hedit : editsTruck c with
  | false =>
    obtain ⟨u, hmoves, hholdings⟩ := exec_moves h
    exact (hmoves.truckStands hlock hp hreset hedit).trans (.of_holdings hholdings)
  | true =>
    cases c with
    | writePosition r => exact exec_writePosition_truckStands hlock h
    | writeAxle r => exact exec_writeAxle_truckStands hlock h
    | clearSection r => exact exec_clearSection_truckStands hlock h
    | _ => cases hedit

end Shielded

/-- Settles O58: the lock by what each command does to the grant, the truck by the moves of the wheel table and by the
three edits that the lock refuses. -/
theorem truckLockShieldsTruck : Obligations.TruckLockShieldsTruck := by
  intro c s t hlock hp hreset hexec
  have hlocked : t.Locked := State.Locked.exec hlock hreset hexec
  obtain ⟨hsensors, hkinds⟩ := exec_truckStands hlock hp hreset hexec
  exact ⟨hlocked, hsensors, hkinds⟩

end Sys2Proof.Machine
end

section
/-! PROOF. The Settings Store: each record of an image reads back from the bytes it was written as, a record with a
field out of its range does not read, and so for the three sections (chapter 10); the statement O60. -/

namespace Sys2Proof.Machine

/-! ### Numbers and codes in their bytes (R158, R181) -/

theorem toNat_byteOf {n : Nat} (h : n < 256) : (byteOf n).toNat = n :=
  (BitVec.toNat_ofNat n 8).trans (Nat.mod_eq_of_lt h)

/-- A two-byte number reads back from its bytes. -/
theorem num16_byteOf {n : Nat} (h : n < 65536) : num16 (byteOf (n / 256)) (byteOf n) = n := by
  simp only [num16, byteOf, BitVec.toNat_ofNat]
  omega

theorem toNat_append_byte (hi lo : Byte) : (hi ++ lo : Word16).toNat = num16 hi lo := by
  rw [BitVec.toNat_append, ← Nat.shiftLeft_add_eq_or_of_lt lo.isLt, Nat.shiftLeft_eq]
  rfl

/-- A word reads back from its bytes. -/
theorem byteOf_append_byteOf (x : Word16) : byteOf (x.toNat / 256) ++ byteOf x.toNat = x :=
  BitVec.eq_of_toNat_eq ((toNat_append_byte _ _).trans (num16_byteOf x.isLt))

/-- An ID reads back from its four bytes. -/
theorem append_be32 (i : SensorId) :
    i.extractLsb' 24 8 ++ i.extractLsb' 16 8 ++ i.extractLsb' 8 8 ++ i.extractLsb' 0 8 = i := by
  have high : i.extractLsb' 24 8 ++ i.extractLsb' 16 8 = i.extractLsb' 16 16 :=
    BitVec.extractLsb'_append_extractLsb'_eq_extractLsb' rfl
  have upper : i.extractLsb' 16 16 ++ i.extractLsb' 8 8 = i.extractLsb' 8 24 :=
    BitVec.extractLsb'_append_extractLsb'_eq_extractLsb' rfl
  have whole : i.extractLsb' 8 24 ++ i.extractLsb' 0 8 = i.extractLsb' 0 32 :=
    BitVec.extractLsb'_append_extractLsb'_eq_extractLsb' rfl
  rw [high, upper, whole, BitVec.extractLsb'_eq_self]

theorem toInt_twosComplement {t : Int} (hlo : -128 ≤ t) (hhi : t < 128) : (twosComplement t).toInt = t :=
  BitVec.toInt_ofInt_eq_self (by decide) hlo hhi

/-! The codes, each read back from its byte. -/

theorem axleKind_ofCode_byteOf (k : AxleKind) : AxleKind.ofCode (byteOf k.code).toNat = some k := by
  cases k <;> rfl

theorem visitOrder_ofCode_byteOf (o : VisitOrder) : VisitOrder.ofCode (byteOf o.code).toNat = some o := by
  cases o <;> rfl

theorem lampPorts_ofCode_byteOf (l : LampPorts) : LampPorts.ofCode (byteOf l.code).toNat = some l := by
  cases l <;> rfl

theorem portOfCode_byteOf (p : Port) : portOfCode (byteOf (portCode p)).toNat = some p := by
  cases p <;> rfl

theorem tippingOfCode_byteOf (t : Option ProfileNo) : tippingOfCode (byteOf (tippingCode t)).toNat = some t := by
  cases t with
  | none => rfl
  | some i => revert i; decide

/-! ### Records read back (R158) -/

/-- A record written ahead of any bytes reads back, and leaves those bytes. -/
def ReadsBack {α : Type} (read : List Byte → Option (α × List Byte)) (write : α → List Byte) (x : α) : Prop :=
  ∀ rest, read (write x ++ rest) = some (x, rest)

theorem Axle.Lawful.readsBack {x : Axle} (hx : x.Lawful) : ReadsBack readAxleImage axleImage x := by
  intro rest
  obtain ⟨hunladen, hladen⟩ := hx
  have hreads : ∀ {n : Nat}, 100 ≤ n ∧ n ≤ 1200 →
      inRange 100 1200 (num16 (byteOf (n / 256)) (byteOf n)) = some n := fun {n} h => by
    rw [num16_byteOf (by omega)]
    exact inRange_eq_some.2 ⟨rfl, h⟩
  simp only [axleImage, be16, List.cons_append, List.nil_append, readAxleImage, axleKind_ofCode_byteOf,
    hreads hunladen, hreads hladen]

theorem readsBack_noId : ReadsBack readIdImage idImage none := fun _ => rfl

theorem readsBack_id {i : SensorId} (hi : validId i = true) : ReadsBack readIdImage idImage (some i) := by
  intro rest
  have hmark : (1 : Byte) ≠ 0 := by decide
  simp only [idImage, be32, List.cons_append, List.nil_append, readIdImage, append_be32, if_neg hmark, hi, and_self,
    if_true]

theorem Profile.Lawful.readsBack {x : Profile} (hx : x.Lawful) : ReadsBack readProfileImage profileImage x := by
  intro rest
  obtain ⟨huw, huc, how, hhyst, htw, htc, hth, hib, hlk⟩ := hx
  have henable := x.enable.isLt
  simp only [profileImage, be16, List.cons_append, List.nil_append, readProfileImage,
    num16_byteOf (show x.enable.toNat < 65536 by omega), num16_byteOf (show x.uw < 65536 by omega),
    num16_byteOf (show x.uc < 65536 by omega), num16_byteOf (show x.ow < 65536 by omega),
    num16_byteOf (show x.ib < 65536 by omega), toNat_byteOf (show x.hyst < 256 by omega),
    toNat_byteOf (show x.tw.toNat < 256 by omega), toNat_byteOf (show x.tc.toNat < 256 by omega),
    toNat_byteOf (show x.th < 256 by omega), toNat_byteOf (show x.lk < 256 by omega)]
  rw [if_pos (by omega), BitVec.ofNat_toNat, BitVec.setWidth_eq, Int.toNat_of_nonneg (by omega),
    Int.toNat_of_nonneg (by omega)]

theorem Settings.Lawful.readsBack {x : Settings} (hx : x.Lawful) : ReadsBack readSettingsImage settingsImage x := by
  intro rest
  obtain ⟨htref, hperiod, hwidth, hreportA, hreportB⟩ := hx
  simp only [settingsImage, List.cons_append, List.nil_append, readSettingsImage, tippingOfCode_byteOf,
    lampPorts_ofCode_byteOf, visitOrder_ofCode_byteOf, portOfCode_byteOf,
    toInt_twosComplement (show -128 ≤ x.tref by omega) (show x.tref < 128 by omega),
    toNat_byteOf (show x.flashPeriod < 256 by omega), toNat_byteOf (show x.flashWidth < 256 by omega),
    toNat_byteOf (show x.reportPeriod.a < 256 by omega), toNat_byteOf (show x.reportPeriod.b < 256 by omega)]
  rw [if_pos (by omega)]

theorem readMany_flatMap {α : Type} {read : List Byte → Option (α × List Byte)} {write : α → List Byte} {xs : List α}
    (h : ∀ x ∈ xs, ReadsBack read write x) (rest : List Byte) :
    readMany read xs.length (xs.flatMap write ++ rest) = some (xs, rest) := by
  induction xs with
  | nil => rfl
  | cons x xs ih =>
    obtain ⟨hx, hxs⟩ := List.forall_mem_cons.1 h
    simp only [List.flatMap_cons, List.append_assoc, List.length_cons, readMany, hx _, ih hxs]

/-! ### Sections read back (R158, R159) -/

theorem readTableImage_tableImage {x : TableImage} (haxles : x.axles.length = 4) (hids : x.ids.length = 16)
    (hlawful : ∀ a ∈ x.axles, a.Lawful) (hvalid : ∀ i, some i ∈ x.ids → validId i = true) :
    readTableImage (tableImage x) = some x := by
  have haxle : ∀ a ∈ x.axles, ReadsBack readAxleImage axleImage a := fun a ha => (hlawful a ha).readsBack
  have hid : ∀ i ∈ x.ids, ReadsBack readIdImage idImage i
    | none, _ => readsBack_noId
    | some i, hi => readsBack_id (hvalid i hi)
  have hreadAxles := readMany_flatMap haxle (x.ids.flatMap idImage)
  have hreadIds := readMany_flatMap hid []
  rw [haxles] at hreadAxles
  rw [hids, List.append_nil] at hreadIds
  simp only [readTableImage, tableImage, hreadAxles, hreadIds]

theorem readSettingsSection_image {x : SettingsImage} (hcount : x.profiles.length = 6)
    (hprofiles : ∀ p ∈ x.profiles, p.Lawful) (hsettings : x.settings.Lawful) :
    readSettingsSection (settingsSectionImage x) = some x := by
  have hreadProfiles := readMany_flatMap (fun p hp => (hprofiles p hp).readsBack)
    (settingsImage x.settings ++ be16 x.revision.toNat)
  rw [hcount, ← List.append_assoc] at hreadProfiles
  simp only [readSettingsSection, settingsSectionImage, hreadProfiles, hsettings.readsBack (be16 x.revision.toNat)]
  simp only [be16, byteOf_append_byteOf]

/-- A section as written passes on to its fields (R159). -/
@[simp] theorem checkSection_sealed {α : Type} (read : List Byte → Option α) (image : List Byte) :
    checkSection read (sealed image) = read image := if_pos ⟨rfl, rfl⟩

/-- Another marker or another CRC fails the check (R159). -/
theorem checkSection_eq_none {α : Type} {read : List Byte → Option α} {x : StoreSection}
    (h : x.marker ≠ 0xA5#8 ∨ crc16 x.image ≠ x.crc) : checkSection read x = none :=
  if_neg fun ⟨hmarker, hcrc⟩ => h.elim (absurd hmarker) (absurd hcrc)

section Saved

variable {s : State}

theorem State.readTableImage_tableValues (hrange : s.RangeLaw) (hids : s.IdentityLaw) (truck : Bool) :
    readTableImage (tableImage (s.tableValues truck)) = some (s.tableValues truck) := by
  refine readTableImage_tableImage ?_ ?_ (fun a ha => ?_) fun i hi => ?_
  · rw [State.tableValues, List.length_map]
    revert truck; decide
  · rw [State.tableValues, List.length_map]
    revert truck; decide
  · obtain ⟨k, -, rfl⟩ := List.mem_map.1 ha
    exact hrange.axles k
  · obtain ⟨p, -, hp⟩ := List.mem_map.1 hi
    exact hids.valid p i hp

theorem State.readSettingsSection_settingsValues (hrange : s.RangeLaw) :
    readSettingsSection (settingsSectionImage s.settingsValues) = some s.settingsValues := by
  refine readSettingsSection_image rfl (fun p hp => ?_) hrange.settings
  obtain ⟨i, -, rfl⟩ := List.mem_map.1 hp
  exact hrange.profiles i

end Saved

/-! ### Records that do not read (R159) -/

/-- Byte `k` of an image as a number; 0 past its end. -/
def byteNat (image : List Byte) (k : Nat) : Nat := (image.getD k 0).toNat

/-- The two-byte number at byte `k` of an image. -/
def wordNat (image : List Byte) (k : Nat) : Nat := 256 * byteNat image k + byteNat image (k + 1)

theorem byteNat_drop (image : List Byte) (n k : Nat) : byteNat (image.drop n) k = byteNat image (n + k) := by
  simp only [byteNat, List.getD_eq_getElem?_getD, List.getElem?_drop]

theorem wordNat_drop (image : List Byte) (n k : Nat) : wordNat (image.drop n) k = wordNat image (n + k) := by
  simp only [wordNat, byteNat_drop, Nat.add_assoc]

@[simp] theorem byteNat_cons_zero (x : Byte) (image : List Byte) : byteNat (x :: image) 0 = x.toNat := rfl

@[simp] theorem byteNat_cons_succ (x : Byte) (image : List Byte) (k : Nat) :
    byteNat (x :: image) (k + 1) = byteNat image k := rfl

theorem readAxleImage_eq_none {bytes : List Byte}
    (h : 2 < byteNat bytes 0 ∨ wordNat bytes 1 < 100 ∨ 1200 < wordNat bytes 1 ∨ wordNat bytes 3 < 100 ∨
      1200 < wordNat bytes 3) : readAxleImage bytes = none := by
  unfold readAxleImage
  split
  · next k u1 u0 l1 l0 rest =>
    split
    · next hkind hunladen hladen =>
      obtain ⟨-, hu⟩ := inRange_eq_some.1 hunladen
      obtain ⟨-, hl⟩ := inRange_eq_some.1 hladen
      have hk : ¬ 2 < k.toNat := fun hgt => by rw [ofCode_of_gt hgt] at hkind; cases hkind
      simp only [wordNat, byteNat_cons_succ, byteNat_cons_zero] at h
      simp only [num16] at hu hl
      omega
    · rfl
  · rfl

/-- The two IDs that are no sensor's fail, and so does a mark other than 00h and 01h. -/
theorem readIdImage_eq_none {bytes : List Byte}
    (h : 1 < byteNat bytes 0 ∨ byteNat bytes 0 = 1 ∧
      (wordNat bytes 1 = 0 ∧ wordNat bytes 3 = 0 ∨ wordNat bytes 1 = 65535 ∧ wordNat bytes 3 = 65535)) :
    readIdImage bytes = none := by
  unfold readIdImage
  split
  · next m b3 b2 b1 b0 rest =>
    simp only [wordNat, byteNat_cons_succ, byteNat_cons_zero] at h
    have hm0 : m ≠ 0 := by rintro rfl; simp at h
    have hm1 : ¬ (m = 1 ∧ validId (b3 ++ b2 ++ b1 ++ b0) = true) := by
      rintro ⟨rfl, hvalid⟩
      obtain hmark | ⟨-, ⟨hhigh, hlow⟩ | ⟨hhigh, hlow⟩⟩ := h
      · exact absurd hmark (by decide)
      · obtain ⟨rfl, rfl, rfl, rfl⟩ : b3 = 0 ∧ b2 = 0 ∧ b1 = 0 ∧ b0 = 0 := by bv_omega
        exact absurd hvalid (by decide)
      · obtain ⟨rfl, rfl, rfl, rfl⟩ : b3 = 0xFF ∧ b2 = 0xFF ∧ b1 = 0xFF ∧ b0 = 0xFF := by bv_omega
        exact absurd hvalid (by decide)
    dsimp only
    rw [if_neg hm0, if_neg hm1]
  · rfl

theorem readProfileImage_eq_none {bytes : List Byte}
    (h : wordNat bytes 2 < 500 ∨ 990 < wordNat bytes 2 ∨ wordNat bytes 4 < 400 ∨ 980 < wordNat bytes 4 ∨
      wordNat bytes 6 < 1010 ∨ 1500 < wordNat bytes 6 ∨ 50 < byteNat bytes 8 ∨ byteNat bytes 9 < 40 ∨
      150 < byteNat bytes 9 ∨ byteNat bytes 10 < 45 ∨ 160 < byteNat bytes 10 ∨ byteNat bytes 11 < 1 ∨
      20 < byteNat bytes 11 ∨ wordNat bytes 12 < 20 ∨ 300 < wordNat bytes 12 ∨ byteNat bytes 14 < 5 ∨
      200 < byteNat bytes 14) : readProfileImage bytes = none := by
  unfold readProfileImage
  split
  · simp only [wordNat, byteNat_cons_succ, byteNat_cons_zero] at h
    dsimp only [num16]
    exact if_neg (by omega)
  · rfl

/-- A code that reads is none of those that name nothing. -/
theorem NamesBy.not_bad {α : Type} {read : Nat → Option α} {code : α → Nat} {bad : Nat → Bool}
    (hread : NamesBy read code bad) {n : Nat} {v : α} (h : read n = some v) : ¬ bad n = true := fun hbad => by
  rw [(hread.nothing n).2 hbad] at h
  cases h

theorem tref_outOfRange {x : Byte} (hlo : 40 < x.toNat) (hhi : x.toNat < 246) :
    ¬ (-10 ≤ x.toInt ∧ x.toInt ≤ 40) := by
  rw [BitVec.toInt_eq_toNat_cond]
  split <;> omega

theorem readSettingsImage_eq_none {bytes : List Byte}
    (h : 40 < byteNat bytes 0 ∧ byteNat bytes 0 < 246 ∨ 5 < byteNat bytes 1 ∧ byteNat bytes 1 ≠ 255 ∨
      3 < byteNat bytes 2 ∨ byteNat bytes 3 < 2 ∨ 50 < byteNat bytes 3 ∨ byteNat bytes 4 < 1 ∨ 50 < byteNat bytes 4 ∨
      byteNat bytes 5 < 1 ∨ 50 < byteNat bytes 5 ∨ byteNat bytes 6 < 1 ∨ 50 < byteNat bytes 6 ∨ 1 < byteNat bytes 7 ∨
      1 < byteNat bytes 8 ∨ 1 < byteNat bytes 9 ∨ 1 < byteNat bytes 10 ∨ 1 < byteNat bytes 11) :
    readSettingsImage bytes = none := by
  unfold readSettingsImage
  split
  · next tr ti la fp fw pa pb oa ob s1 s2 s3 rest =>
    simp only [byteNat_cons_succ, byteNat_cons_zero] at h
    split
    · next htipping hlamp horderA horderB hload htruck htrailer =>
      have htipping := tipping_namesBy.not_bad htipping
      have hlamp := lampPorts_namesBy.not_bad hlamp
      have horderA := visitOrder_namesBy.not_bad horderA
      have horderB := visitOrder_namesBy.not_bad horderB
      have hload := portOfCode_namesBy.not_bad hload
      have htruck := portOfCode_namesBy.not_bad htruck
      have htrailer := portOfCode_namesBy.not_bad htrailer
      simp only [Bool.and_eq_true, bne_iff_ne, decide_eq_true_eq] at htipping hlamp horderA horderB hload htruck htrailer
      have htref := tref_outOfRange (x := tr)
      exact if_neg (by omega)
    · rfl
  · rfl

/-! ### Where the records stand in an image (log 7) -/

/-- What a reader leaves starts `k` bytes on. -/
def TakesBytes {α : Type} (read : List Byte → Option (α × List Byte)) (k : Nat) : Prop :=
  ∀ bytes x rest, read bytes = some (x, rest) → rest = bytes.drop k

theorem readAxleImage_takesBytes : TakesBytes readAxleImage 5 := by
  intro bytes x rest h
  unfold readAxleImage at h
  split at h
  · split at h
    · cases h; rfl
    · cases h
  · cases h

theorem readIdImage_takesBytes : TakesBytes readIdImage 5 := by
  intro bytes x rest h
  unfold readIdImage at h
  split at h
  · dsimp only at h
    split at h
    · cases h; rfl
    · split at h
      · cases h; rfl
      · cases h
  · cases h

theorem readProfileImage_takesBytes : TakesBytes readProfileImage 15 := by
  intro bytes x rest h
  unfold readProfileImage at h
  split at h
  · dsimp only at h
    split at h
    · cases h; rfl
    · cases h
  · cases h

section Layout

variable {α : Type} {read : List Byte → Option (α × List Byte)} {k : Nat} (hread : TakesBytes read k)
include hread

/-- The readers of one kind of record together read that many records' bytes. -/
theorem TakesBytes.many (n : Nat) : TakesBytes (readMany read n) (k * n) := by
  induction n with
  | zero => intro bytes xs rest h; cases h; rfl
  | succ n ih =>
    intro bytes xs rest h
    unfold readMany at h
    split at h
    · cases h
    · next x left hx =>
      split at h
      · cases h
      · next ys left' hys =>
        cases h
        rw [ih left ys rest hys, hread bytes x left hx, List.drop_drop, Nat.mul_succ, Nat.add_comm]

/-- One record that does not read fails the whole row. -/
theorem TakesBytes.readMany_eq_none {n i : Nat} (hi : i < n) {bytes : List Byte}
    (h : read (bytes.drop (k * i)) = none) : readMany read n bytes = none := by
  induction n generalizing i bytes with
  | zero => cases hi
  | succ n ih =>
    unfold readMany
    split
    · rfl
    · next x left hx =>
      cases i with
      | zero =>
        rw [Nat.mul_zero, List.drop_zero, hx] at h
        cases h
      | succ i =>
        have hleft : read (left.drop (k * i)) = none := by
          rwa [hread bytes x left hx, List.drop_drop, Nat.add_comm, ← Nat.mul_succ]
        rw [ih (Nat.lt_of_succ_lt_succ hi) hleft]

end Layout

theorem readTableImage_of_axle {image : List Byte} {i : Nat} (hi : i < 4)
    (h : readAxleImage (image.drop (5 * i)) = none) : readTableImage image = none := by
  rw [readTableImage, readAxleImage_takesBytes.readMany_eq_none hi h]

theorem readTableImage_of_id {image : List Byte} {j : Nat} (hj : j < 16)
    (h : readIdImage (image.drop (20 + 5 * j)) = none) : readTableImage image = none := by
  unfold readTableImage
  split
  · rfl
  · next axles rest haxles =>
    have hrest : rest = image.drop 20 := readAxleImage_takesBytes.many 4 image axles rest haxles
    rw [← List.drop_drop, ← hrest] at h
    rw [readIdImage_takesBytes.readMany_eq_none hj h]

theorem readSettingsSection_of_profile {image : List Byte} {i : Nat} (hi : i < 6)
    (h : readProfileImage (image.drop (15 * i)) = none) : readSettingsSection image = none := by
  rw [readSettingsSection, readProfileImage_takesBytes.readMany_eq_none hi h]

theorem readSettingsSection_of_settings {image : List Byte} (h : readSettingsImage (image.drop 90) = none) :
    readSettingsSection image = none := by
  unfold readSettingsSection
  split
  · rfl
  · next profiles rest hprofiles =>
    have hrest : rest = image.drop 90 := readProfileImage_takesBytes.many 6 image profiles rest hprofiles
    rw [hrest, h]

/-- Settles O60: the sections as written read back record by record, and a record that does not read fails the section
it stands in. -/
theorem savedSectionsLoadBack : Obligations.SavedSectionsLoadBack := by
  refine ⟨fun s hrange hids => ⟨?_, ?_, ?_⟩, fun α read x => checkSection_eq_none, fun image b w hb hw => ?_⟩
  · exact (checkSection_sealed _ _).trans (s.readTableImage_tableValues hrange hids true)
  · exact (checkSection_sealed _ _).trans (s.readTableImage_tableValues hrange hids false)
  · exact (checkSection_sealed _ _).trans (s.readSettingsSection_settingsValues hrange)
  · obtain rfl : b = byteNat image := funext hb
    obtain rfl : w = wordNat image := funext hw
    refine ⟨fun i hi h => ?_, fun j hj h => ?_, fun o ho => ?_, fun h => ?_⟩
    · refine readTableImage_of_axle hi (readAxleImage_eq_none ?_)
      simpa only [byteNat_drop, wordNat_drop, Nat.add_zero] using h
    · refine readTableImage_of_id hj (readIdImage_eq_none ?_)
      simpa only [byteNat_drop, wordNat_drop, Nat.add_right_comm 20 (5 * j), Nat.reduceAdd,
        Nat.add_zero] using h
    · obtain ⟨i, hi, rfl⟩ : ∃ i, i < 6 ∧ 15 * i = o := by revert o; decide
      refine fun h => readSettingsSection_of_profile hi (readProfileImage_eq_none ?_)
      simpa only [byteNat_drop, wordNat_drop] using h
    · refine readSettingsSection_of_settings (readSettingsImage_eq_none ?_)
      simpa only [byteNat_drop] using h

end Sys2Proof.Machine
end

section
/-! PROOF. The ports: what a frame raised does to a queue, which frame is offered, and the three ends of an attempt
with BUS-OFF (chapter 11); the statements O28, O29, O31, O32. -/

namespace Sys2Proof.Machine

/-! ### A frame raised (R171, R173, R174) -/

section Raised

variable {c : PortCtl} {f : TxFrame}

theorem TxFrame.replaceable_iff {g : TxFrame} : g.replaceable = true ↔ g.cyclic = true ∧ g.sending = false := by
  rw [TxFrame.replaceable, Bool.and_eq_true, Bool.not_eq_true']

theorem TxFrame.not_replaceable_iff {g : TxFrame} :
    g.replaceable = false ↔ g.cyclic = false ∨ g.sending = true := by
  rw [TxFrame.replaceable, Bool.and_eq_false_iff, Bool.not_eq_false']

theorem PortCtl.enqueue_of_busOff (h : c.mode ≠ .active) :
    c.enqueue f = if f.cyclic = true then c else { c with overflow := true } := by
  unfold PortCtl.enqueue
  split
  · rfl
  · next hactive => exact absurd hactive h

theorem PortCtl.enqueue_of_active (h : c.mode = .active) : c.enqueue f =
    if c.queue.length < 16 then { c with queue := c.queue ++ [f] }
    else if f.cyclic = true then c
    else if c.queue.any TxFrame.replaceable = true then
      { c with queue := c.queue.eraseP TxFrame.replaceable ++ [f] }
    else { c with overflow := true } := by
  unfold PortCtl.enqueue
  split
  · next hoff => rw [h] at hoff; cases hoff
  · rfl

theorem PortCtl.enqueue_of_room (h : c.mode = .active) (hroom : c.queue.length < 16) :
    c.enqueue f = { c with queue := c.queue ++ [f] } := by
  rw [PortCtl.enqueue_of_active h, if_pos hroom]

/-- A frame that is no cyclic report, raised for a full queue. -/
theorem PortCtl.enqueue_of_full (h : c.mode = .active) (hfull : c.queue.length = 16) (hf : f.cyclic = false) :
    c.enqueue f = if c.queue.any TxFrame.replaceable = true then
      { c with queue := c.queue.eraseP TxFrame.replaceable ++ [f] } else { c with overflow := true } := by
  rw [PortCtl.enqueue_of_active h, if_neg hfull.not_lt, hf, if_neg Bool.false_ne_true]

end Raised

/-- Settles O28: the mode, the room and the kind of the frame decide, and on a full queue the oldest report that is
not in transmission. -/
theorem raisedFrameIsQueuedOrLost : Obligations.RaisedFrameIsQueuedOrLost := by
  intro c f
  refine ⟨PortCtl.enqueue_of_busOff, PortCtl.enqueue_of_room, fun hactive hfull hcyclic => ?dropped,
    fun hactive hfull hother hnone => ?lost, fun older g newer hactive hfull hother hqueue hg hidle holder => ?replaces⟩
  case dropped => rw [PortCtl.enqueue_of_active hactive, if_neg hfull.not_lt, if_pos hcyclic]
  case lost =>
    have hany : ¬ c.queue.any TxFrame.replaceable = true := by
      rw [Bool.not_eq_true, List.any_eq_false]
      exact fun g hg => Bool.not_eq_true _ ▸ TxFrame.not_replaceable_iff.2 (hnone g hg)
    rw [PortCtl.enqueue_of_full hactive hfull hother, if_neg hany]
  case replaces =>
    have hreplaceable : g.replaceable = true := TxFrame.replaceable_iff.2 ⟨hg, hidle⟩
    have hany : c.queue.any TxFrame.replaceable = true :=
      List.any_eq_true.2 ⟨g, hqueue ▸ List.mem_append_cons_self, hreplaceable⟩
    have holder : ∀ x ∈ older, ¬ x.replaceable = true := fun x hx =>
      Bool.not_eq_true _ ▸ TxFrame.not_replaceable_iff.2 (holder x hx)
    rw [PortCtl.enqueue_of_full hactive hfull hother, if_pos hany, hqueue, List.eraseP_append_right _ holder,
      List.eraseP_cons_of_pos hreplaceable]

/-! ### The frames of an answer (R165, R167) -/

/-- Frames raised for an ACTIVE port with room for all of them join its queue in their order. -/
theorem PortCtl.foldl_enqueue_of_room {c : PortCtl} (frames : List TxFrame) (hactive : c.mode = .active)
    (hroom : c.queue.length + frames.length ≤ 16) :
    frames.foldl PortCtl.enqueue c = { c with queue := c.queue ++ frames } := by
  induction frames generalizing c with
  | nil => rw [List.foldl_nil, List.append_nil]
  | cons f fs ih =>
    rw [List.length_cons] at hroom
    have hleft : (c.queue ++ [f]).length + fs.length ≤ 16 := by
      rw [List.length_append, List.length_singleton]; omega
    rw [List.foldl_cons, PortCtl.enqueue_of_room hactive (by omega),
      ih (c := { c with queue := c.queue ++ [f] }) hactive hleft, List.append_assoc, List.singleton_append]

/-- A frame of an answer (R165, R167). -/
def State.answerFrame (s : State) (r : Request) (code : Byte) (data : List Byte) : TxFrame :=
  { ident := frameIdent 4 classAnswer code r.sender s.address, data := data, sending := false }

theorem State.answer_eq_setPort (s : State) (r : Request) (code : Byte) (frames : List (List Byte)) :
    s.answer r code frames =
      s.setPort r.port ((frames.map (s.answerFrame r code)).foldl PortCtl.enqueue (s.port r.port)) := by
  have hports : (s.answer r code frames).ports = (s.setPort r.port
      ((frames.map (s.answerFrame r code)).foldl PortCtl.enqueue (s.port r.port))).ports := by
    refine ports_ext fun k => ?_
    by_cases hk : k = r.port
    · rw [hk, State.port_answer_same, State.port_setPort_same, List.foldl_map]; rfl
    · rw [State.port_answer_ne s r code frames hk, State.port_setPort_ne s _ hk]
  rw [State.answer_eq, hports]; rfl

/-- Settles O29: an answer is its frames raised one after another on the one port, a notice the same frame on each. -/
theorem answerFramesQueuedInOrder : Obligations.AnswerFramesQueuedInOrder := by
  refine ⟨fun s r code frames => ⟨s.answer_eq_setPort r code frames, fun hactive hroom => ?_⟩,
    fun s code data f hf => ?_⟩
  · rw [State.answer_eq_setPort, PortCtl.foldl_enqueue_of_room _ hactive (by rwa [List.length_map])]
    rfl
  · rw [hf]; rfl

/-! ### FRAME_OFFER (R172) -/

theorem lowestIdent_concat {q : List TxFrame} {i : FrameIdent} (h : lowestIdent q = some i) (g : TxFrame) :
    lowestIdent (q ++ [g]) = some (if g.ident < i then g.ident else i) := by
  rw [lowestIdent] at h ⊢
  rw [List.foldl_concat, h]

/-- The lowest identifier splits a queue at the oldest of the frames that have it. -/
theorem lowestIdent_splits {q : List TxFrame} (h : q ≠ []) : ∃ older f newer, q = older ++ f :: newer ∧
    lowestIdent q = some f.ident ∧ (∀ g ∈ older, f.ident < g.ident) ∧ ∀ g ∈ newer, f.ident ≤ g.ident := by
  induction q using List.reverseRecOn with
  | nil => exact absurd rfl h
  | append_singleton q g ih =>
    obtain rfl | hq := eq_or_ne q []
    · exact ⟨[], g, [], rfl, rfl, List.forall_mem_nil _, List.forall_mem_nil _⟩
    obtain ⟨older, f, newer, rfl, hlowest, holder, hnewer⟩ := ih hq
    have hconcat := lowestIdent_concat hlowest g
    by_cases hg : g.ident < f.ident
    · rw [if_pos hg] at hconcat
      refine ⟨older ++ f :: newer, g, [], rfl, hconcat, fun x hx => ?_, List.forall_mem_nil _⟩
      obtain hx | rfl | hx := List.mem_append.1 hx |>.imp_right List.mem_cons.1
      · exact BitVec.lt_trans hg (holder x hx)
      · exact hg
      · exact BitVec.lt_def.2 ((BitVec.lt_def.1 hg).trans_le (BitVec.le_def.1 (hnewer x hx)))
    · rw [if_neg hg] at hconcat
      refine ⟨older, f, newer ++ [g], by rw [List.append_assoc, List.cons_append], hconcat, holder, ?_⟩
      exact List.forall_mem_append.2 ⟨hnewer, List.forall_mem_singleton.2 (BitVec.not_lt.1 hg)⟩

/-- Older frames with other identifiers are passed over. -/
theorem markFirst_append {older : List TxFrame} {f : TxFrame} (newer : List TxFrame)
    (h : ∀ g ∈ older, g.ident ≠ f.ident) :
    markFirst f.ident (older ++ f :: newer) = older ++ { f with sending := true } :: newer := by
  induction older with
  | nil => exact if_pos rfl
  | cons g gs ih =>
    obtain ⟨hg, hgs⟩ := List.forall_mem_cons.1 h
    rw [List.cons_append, List.cons_append, ← ih hgs]
    exact if_neg hg

theorem any_sending_eq_false {q : List TxFrame} : q.any (·.sending) = false ↔ ∀ g ∈ q, g.sending = false := by
  simp only [List.any_eq_false, Bool.not_eq_true]

section Transmitter

variable {s : State} {port : Port}

theorem exec_frameOffer_idle (hactive : (s.port port).mode = .active)
    (hidle : (s.port port).queue.any (·.sending) = false) {i : FrameIdent}
    (hlowest : lowestIdent (s.port port).queue = some i) : exec (.frameOffer port) s = .next
      (s.setPort port { s.port port with queue := markFirst i (s.port port).queue }) := by
  rw [exec, execFrameOffer]; dsimp only
  rw [if_pos ⟨hactive, hidle⟩, hlowest]

theorem exec_frameOffer_not_due (h : ¬ ((s.port port).mode = .active ∧ (s.port port).queue.any (·.sending) = false)) :
    exec (.frameOffer port) s = .next s :=
  congrArg Host.Outcome.next (if_neg h)

theorem exec_frameOffer_empty (hempty : (s.port port).queue = []) : exec (.frameOffer port) s = .next s := by
  rw [exec, execFrameOffer]; dsimp only
  rw [hempty]
  exact congrArg Host.Outcome.next (ite_self s)

end Transmitter

/-- Settles O31: the queue splits at the frame that is marked. -/
theorem frameOfferPicksLowestOldest : Obligations.FrameOfferPicksLowestOldest := by
  intro port s
  refine ⟨fun hnot => ?nothing, fun hactive hidle hnonempty => ?offers⟩
  case nothing =>
    obtain hoff | hsending | hempty := hnot
    · exact exec_frameOffer_not_due fun h => hoff h.1
    · exact exec_frameOffer_not_due fun h => Bool.false_ne_true (h.2.symm.trans (List.any_eq_true.2 hsending))
    · exact exec_frameOffer_empty hempty
  case offers =>
    obtain ⟨older, f, newer, hqueue, hlowest, holder, hnewer⟩ := lowestIdent_splits hnonempty
    have hmark : markFirst f.ident (s.port port).queue = older ++ { f with sending := true } :: newer := by
      rw [hqueue]
      exact markFirst_append newer fun g hg heq => BitVec.lt_irrefl _ (heq ▸ holder g hg)
    refine ⟨older, f, newer, hqueue, holder, hnewer, ?_⟩
    rw [exec_frameOffer_idle hactive (any_sending_eq_false.2 hidle) hlowest, hmark]

/-! ### ATTEMPT_END and BUS_OFF_RETURN (R172, R175, R177, R178) -/

theorem idleQueue_of_idle {q : List TxFrame} (h : ∀ g ∈ q, g.sending = false) : idleQueue q = q :=
  (List.map_congr_left fun g hg => by rw [← h g hg]; rfl).trans (List.map_id q)

/-- The one frame in transmission goes back to the queue where it stands. -/
theorem idleQueue_append {older : List TxFrame} (f : TxFrame) {newer : List TxFrame}
    (holder : ∀ g ∈ older, g.sending = false) (hnewer : ∀ g ∈ newer, g.sending = false) :
    idleQueue (older ++ f :: newer) = older ++ { f with sending := false } :: newer := by
  have hsplit : idleQueue (older ++ f :: newer) =
      idleQueue older ++ { f with sending := false } :: idleQueue newer := List.map_append
  rw [hsplit, idleQueue_of_idle holder, idleQueue_of_idle hnewer]

/-- The frames that a port reset loses with the overflow flag: all but the cyclic reports (R178). -/
theorem any_not_cyclic_eq (q : List TxFrame) :
    q.any (fun f => !f.cyclic) = decide (∃ g ∈ q, g.cyclic = false) := by
  rw [Bool.eq_iff_iff, List.any_eq_true, decide_eq_true_iff]
  simp only [Bool.not_eq_true']

section Attempt

variable {s : State} {port : Port}

theorem exec_attemptEnd_not_due (hidle : (s.port port).queue.any (·.sending) = false) (r : AttemptResult) :
    exec (.attemptEnd port r) s = .next s :=
  congrArg Host.Outcome.next (if_neg (Bool.not_eq_true _ ▸ hidle))

section Due

variable (hsending : (s.port port).queue.any (·.sending) = true)
include hsending

theorem exec_attemptEnd_success : exec (.attemptEnd port .success) s = .next (s.setPort port
    { s.port port with queue := (s.port port).queue.eraseP (·.sending), errors := (s.port port).errors - 1 }) :=
  congrArg Host.Outcome.next (if_pos hsending)

theorem exec_attemptEnd_lostArbitration : exec (.attemptEnd port .lostArbitration) s = .next
    (s.setPort port { s.port port with queue := idleQueue (s.port port).queue }) :=
  congrArg Host.Outcome.next (if_pos hsending)

theorem exec_attemptEnd_failure : exec (.attemptEnd port .failure) s = .next
    (if 255 < (s.port port).errors + 8 then s.portReset port
    else s.setPort port
      { s.port port with queue := idleQueue (s.port port).queue, errors := (s.port port).errors + 8 }) :=
  congrArg Host.Outcome.next (if_pos hsending)

end Due

theorem exec_busOffReturn_active (h : (s.port port).mode = .active) :
    exec (.busOffReturn port) s = .next s := by
  rw [exec, execBusOffReturn]; dsimp only
  rw [h]

theorem exec_busOffReturn_busOff {since : Tick} (h : (s.port port).mode = .busOff since) :
    exec (.busOffReturn port) s = .next (if 10 ≤ (s.tick - since).toNat then s.setPort port
      { s.port port with
        mode := .active
        errors := 0
        periodDue := if s.phase = .running then
          some (s.tick + BitVec.ofNat 24 (s.settings.reportPeriod.get port)) else none }
      else s) := by
  rw [exec, execBusOffReturn]; dsimp only
  rw [h]; dsimp only
  rw [ranOut_some]
  simp only [decide_eq_true_eq]
  rfl

/-- A port reset silences the port, then ends the tenure it holds or takes it off the waiting list (R149, R178). -/
theorem State.portReset_eq_silenced : s.portReset port =
    let silenced := s.setPort port
      { mode := .busOff s.tick, queue := [], errors := 0, periodDue := none, nextAxle := 0
        overflow := (s.port port).overflow || decide (∃ g ∈ (s.port port).queue, g.cyclic = false) }
    if s.grant.state = .held port then silenced.endTenure port
    else { silenced with grant := { silenced.grant with waiting := silenced.grant.waiting.filter (· ≠ port) } } := by
  rw [State.portReset]; dsimp only
  rw [any_not_cyclic_eq, State.grantPortReset, State.stopWaiting_eq, State.setPort_grant]

end Attempt

/-- Settles O32: the queue is split at the frame in transmission, and each end is its equation. -/
theorem attemptEndsAndBusOffReturns : Obligations.AttemptEndsAndBusOffReturns := by
  intro port s
  refine ⟨fun older f newer hqueue hsending holder hnewer => ?due,
    fun hidle => exec_attemptEnd_not_due (any_sending_eq_false.2 hidle), exec_busOffReturn_active,
    fun since hoff hearly => ?early, fun since hoff hlate hrunning => ?back⟩
  case due =>
    have hany : (s.port port).queue.any (·.sending) = true :=
      List.any_eq_true.2 ⟨f, hqueue ▸ List.mem_append_cons_self, hsending⟩
    have hidle : idleQueue (s.port port).queue = older ++ { f with sending := false } :: newer := by
      rw [hqueue]; exact idleQueue_append f holder hnewer
    have herase : (s.port port).queue.eraseP (·.sending) = older ++ newer := by
      rw [hqueue, List.eraseP_append_right _ fun g hg => Bool.not_eq_true _ ▸ holder g hg,
        List.eraseP_cons_of_pos hsending]
    refine ⟨?success, ?lost, fun hbelow => ?failure, fun habove s1 hs1 => ?busOff⟩
    case success => rw [exec_attemptEnd_success hany, herase]
    case lost => rw [exec_attemptEnd_lostArbitration hany, hidle]
    case failure => rw [exec_attemptEnd_failure hany, if_neg hbelow.not_gt, hidle]
    case busOff => rw [exec_attemptEnd_failure hany, if_pos habove, State.portReset_eq_silenced, hs1]
  case early => rw [exec_busOffReturn_busOff hoff, if_neg hearly.not_ge]
  case back => rw [exec_busOffReturn_busOff hoff, if_pos hlate, if_pos hrunning]

end Sys2Proof.Machine
end
